-- ==== Sys2Proof/Word.lean ====
section
/-! DEFINITION. The word types of the block: the widths the spec gives its bus, its registers and
its counters (spec/00_scope.md R11, R12). Nothing here but names for widths. -/

namespace Sys2Proof

/-- A bus data word and a register: 32 bits (R12, BUS_W). -/
abbrev Word := BitVec 32

/-- One byte lane of a lookup-table word (R82). -/
abbrev Byte := BitVec 8

/-- A byte address within the block: BUS_ADDR, 13 bits (R11, R12). -/
abbrev Addr := BitVec 13

/-- The 16-bit transaction header of R110: W, SIZE, ADDR. -/
abbrev Header := BitVec 16

/-- A counter, period, compare value or dead-time delay: 16 bits (R12, CTR_W and DT_W). -/
abbrev Tick := BitVec 16

/-- A lookup-table entry number: 0 to 1023 (R57). -/
abbrev LutIndex := BitVec 10

end Sys2Proof
end

