-- ==== Sys2Proof/Syntax.lean ====
section
/-! DEFINITION. The syntax of the block's operations: one constructor of `Instr` for each row of
spec/opcode_table.json (bus transactions, SLVERR classes and the four internal operations,
spec/00_scope.md R3, spec/30_encoding.md R112, R116, R117). -/

namespace Sys2Proof

/-- A channel k, and a phase p: phase p drives channel p (R19). -/
inductive Ch where
  | c0
  | c1
  | c2
deriving DecidableEq, Repr

/-- The channel's number 0, 1, 2, used to place its bits in GCTL and ERR (R41, R42). -/
def Ch.toNat : Ch → Nat
  | .c0 => 0
  | .c1 => 1
  | .c2 => 2

/-- The twelve registers of a channel page (R45 to R55). -/
inductive ChReg where
  | tbctl
  | tbprd
  | tbctr
  | cmpctl
  | cmp
  | cmpshd
  | duty
  | aqctl
  | dbctl
  | dbred
  | dbfed
  | outst
deriving DecidableEq, Repr

/-- The operations of the block. `w` is BUS_WDATA; `i` a lookup-table entry number; `a` the address
of a transaction answered SLVERR and `d` its data word (`none` for a read, `some w` for a write of
`w`, R110); `k` the channel of an internal operation. -/
inductive Instr where
  /-- RD ID (R160). -/
  | rdId
  /-- RD GCTL (R161). -/
  | rdGctl
  /-- WR GCTL (R162). -/
  | wrGctl (w : Word)
  /-- RD ERR (R163). -/
  | rdErr
  /-- WR ERR (R166). -/
  | wrErr (w : Word)
  /-- RD LUTN (R354). -/
  | rdLutn
  /-- WR LUTN (R353). -/
  | wrLutn (w : Word)
  /-- RD PHIDX0 (R357). -/
  | rdPhidx0
  /-- WR PHIDX0 (R356). -/
  | wrPhidx0 (w : Word)
  /-- RD PHIDX1 (R357). -/
  | rdPhidx1
  /-- WR PHIDX1 (R356). -/
  | wrPhidx1 (w : Word)
  /-- RD PHIDX2 (R357). -/
  | rdPhidx2
  /-- WR PHIDX2 (R356). -/
  | wrPhidx2 (w : Word)
  /-- RD CH0.TBCTL (R202). -/
  | rdCh0Tbctl
  /-- WR CH0.TBCTL (R190). -/
  | wrCh0Tbctl (w : Word)
  /-- RD CH0.TBPRD (R202). -/
  | rdCh0Tbprd
  /-- WR CH0.TBPRD (R191). -/
  | wrCh0Tbprd (w : Word)
  /-- RD CH0.TBCTR (R201). -/
  | rdCh0Tbctr
  /-- RD CH0.CMPCTL (R231). -/
  | rdCh0Cmpctl
  /-- WR CH0.CMPCTL (R230). -/
  | wrCh0Cmpctl (w : Word)
  /-- RD CH0.CMP (R239). -/
  | rdCh0Cmp
  /-- WR CH0.CMP (R238). -/
  | wrCh0Cmp (w : Word)
  /-- RD CH0.CMPSHD (R240). -/
  | rdCh0Cmpshd
  /-- RD CH0.DUTY (R243). -/
  | rdCh0Duty
  /-- WR CH0.DUTY (R242). -/
  | wrCh0Duty (w : Word)
  /-- RD CH0.AQCTL (R277). -/
  | rdCh0Aqctl
  /-- WR CH0.AQCTL (R276). -/
  | wrCh0Aqctl (w : Word)
  /-- RD CH0.DBCTL (R315). -/
  | rdCh0Dbctl
  /-- WR CH0.DBCTL (R310). -/
  | wrCh0Dbctl (w : Word)
  /-- RD CH0.DBRED (R315). -/
  | rdCh0Dbred
  /-- WR CH0.DBRED (R311). -/
  | wrCh0Dbred (w : Word)
  /-- RD CH0.DBFED (R315). -/
  | rdCh0Dbfed
  /-- WR CH0.DBFED (R311). -/
  | wrCh0Dbfed (w : Word)
  /-- RD CH0.OUTST (R319). -/
  | rdCh0Outst
  /-- RD CH1.TBCTL (R202). -/
  | rdCh1Tbctl
  /-- WR CH1.TBCTL (R190). -/
  | wrCh1Tbctl (w : Word)
  /-- RD CH1.TBPRD (R202). -/
  | rdCh1Tbprd
  /-- WR CH1.TBPRD (R191). -/
  | wrCh1Tbprd (w : Word)
  /-- RD CH1.TBCTR (R201). -/
  | rdCh1Tbctr
  /-- RD CH1.CMPCTL (R231). -/
  | rdCh1Cmpctl
  /-- WR CH1.CMPCTL (R230). -/
  | wrCh1Cmpctl (w : Word)
  /-- RD CH1.CMP (R239). -/
  | rdCh1Cmp
  /-- WR CH1.CMP (R238). -/
  | wrCh1Cmp (w : Word)
  /-- RD CH1.CMPSHD (R240). -/
  | rdCh1Cmpshd
  /-- RD CH1.DUTY (R243). -/
  | rdCh1Duty
  /-- WR CH1.DUTY (R242). -/
  | wrCh1Duty (w : Word)
  /-- RD CH1.AQCTL (R277). -/
  | rdCh1Aqctl
  /-- WR CH1.AQCTL (R276). -/
  | wrCh1Aqctl (w : Word)
  /-- RD CH1.DBCTL (R315). -/
  | rdCh1Dbctl
  /-- WR CH1.DBCTL (R310). -/
  | wrCh1Dbctl (w : Word)
  /-- RD CH1.DBRED (R315). -/
  | rdCh1Dbred
  /-- WR CH1.DBRED (R311). -/
  | wrCh1Dbred (w : Word)
  /-- RD CH1.DBFED (R315). -/
  | rdCh1Dbfed
  /-- WR CH1.DBFED (R311). -/
  | wrCh1Dbfed (w : Word)
  /-- RD CH1.OUTST (R319). -/
  | rdCh1Outst
  /-- RD CH2.TBCTL (R202). -/
  | rdCh2Tbctl
  /-- WR CH2.TBCTL (R190). -/
  | wrCh2Tbctl (w : Word)
  /-- RD CH2.TBPRD (R202). -/
  | rdCh2Tbprd
  /-- WR CH2.TBPRD (R191). -/
  | wrCh2Tbprd (w : Word)
  /-- RD CH2.TBCTR (R201). -/
  | rdCh2Tbctr
  /-- RD CH2.CMPCTL (R231). -/
  | rdCh2Cmpctl
  /-- WR CH2.CMPCTL (R230). -/
  | wrCh2Cmpctl (w : Word)
  /-- RD CH2.CMP (R239). -/
  | rdCh2Cmp
  /-- WR CH2.CMP (R238). -/
  | wrCh2Cmp (w : Word)
  /-- RD CH2.CMPSHD (R240). -/
  | rdCh2Cmpshd
  /-- RD CH2.DUTY (R243). -/
  | rdCh2Duty
  /-- WR CH2.DUTY (R242). -/
  | wrCh2Duty (w : Word)
  /-- RD CH2.AQCTL (R277). -/
  | rdCh2Aqctl
  /-- WR CH2.AQCTL (R276). -/
  | wrCh2Aqctl (w : Word)
  /-- RD CH2.DBCTL (R315). -/
  | rdCh2Dbctl
  /-- WR CH2.DBCTL (R310). -/
  | wrCh2Dbctl (w : Word)
  /-- RD CH2.DBRED (R315). -/
  | rdCh2Dbred
  /-- WR CH2.DBRED (R311). -/
  | wrCh2Dbred (w : Word)
  /-- RD CH2.DBFED (R315). -/
  | rdCh2Dbfed
  /-- WR CH2.DBFED (R311). -/
  | wrCh2Dbfed (w : Word)
  /-- RD CH2.OUTST (R319). -/
  | rdCh2Outst
  /-- RD LUT (R93). -/
  | rdLut (i : LutIndex)
  /-- WR LUT (R93). -/
  | wrLut (i : LutIndex) (w : Word)
  /-- SLVERR SIZE (SIZE=0) (R391). -/
  | slverrSize0 (d : Option Word) (a : Addr)
  /-- SLVERR SIZE (SIZE=1) (R391). -/
  | slverrSize1 (d : Option Word) (a : Addr)
  /-- SLVERR SIZE (SIZE=3) (R391). -/
  | slverrSize3 (d : Option Word) (a : Addr)
  /-- SLVERR ALIGN (ADDR[0]=1) (R391). -/
  | slverrAlign0 (d : Option Word) (a : Addr)
  /-- SLVERR ALIGN (ADDR[1]=1) (R391). -/
  | slverrAlign1 (d : Option Word) (a : Addr)
  /-- SLVERR UNMAPPED (global page) (R391). -/
  | slverrUnmappedGlobalPage (d : Option Word) (a : Addr)
  /-- SLVERR UNMAPPED (channel offset) (R391). -/
  | slverrUnmappedChannelOffset (d : Option Word) (a : Addr)
  /-- SLVERR UNMAPPED (channel 3) (R391). -/
  | slverrUnmappedChannel3 (d : Option Word) (a : Addr)
  /-- SLVERR UNMAPPED (pages 2..15) (R391). -/
  | slverrUnmappedPages2to15 (d : Option Word) (a : Addr)
  /-- SLVERR RO (WR ID) (R391). -/
  | slverrRoWrId (w : Word)
  /-- SLVERR RO (WR CH0.TBCTR) (R391). -/
  | slverrRoWrCh0Tbctr (w : Word)
  /-- SLVERR RO (WR CH0.CMPSHD) (R391). -/
  | slverrRoWrCh0Cmpshd (w : Word)
  /-- SLVERR RO (WR CH0.OUTST) (R391). -/
  | slverrRoWrCh0Outst (w : Word)
  /-- SLVERR RO (WR CH1.TBCTR) (R391). -/
  | slverrRoWrCh1Tbctr (w : Word)
  /-- SLVERR RO (WR CH1.CMPSHD) (R391). -/
  | slverrRoWrCh1Cmpshd (w : Word)
  /-- SLVERR RO (WR CH1.OUTST) (R391). -/
  | slverrRoWrCh1Outst (w : Word)
  /-- SLVERR RO (WR CH2.TBCTR) (R391). -/
  | slverrRoWrCh2Tbctr (w : Word)
  /-- SLVERR RO (WR CH2.CMPSHD) (R391). -/
  | slverrRoWrCh2Cmpshd (w : Word)
  /-- SLVERR RO (WR CH2.OUTST) (R391). -/
  | slverrRoWrCh2Outst (w : Word)
  /-- RESET (R430). -/
  | reset
  /-- SAMPLE (R358). -/
  | sample
  /-- TB_TICK (R194). -/
  | tbTick (k : Ch)
  /-- HALF_TICK (R195). -/
  | halfTick (k : Ch)
deriving DecidableEq, Repr


/-- Whether the operation is a bus transaction: every row but the four internal operations, which
have no bus encoding (R112). -/
def Instr.isBus : Instr → Bool
  | .rdId => true
  | .rdGctl => true
  | .wrGctl _ => true
  | .rdErr => true
  | .wrErr _ => true
  | .rdLutn => true
  | .wrLutn _ => true
  | .rdPhidx0 => true
  | .wrPhidx0 _ => true
  | .rdPhidx1 => true
  | .wrPhidx1 _ => true
  | .rdPhidx2 => true
  | .wrPhidx2 _ => true
  | .rdCh0Tbctl => true
  | .wrCh0Tbctl _ => true
  | .rdCh0Tbprd => true
  | .wrCh0Tbprd _ => true
  | .rdCh0Tbctr => true
  | .rdCh0Cmpctl => true
  | .wrCh0Cmpctl _ => true
  | .rdCh0Cmp => true
  | .wrCh0Cmp _ => true
  | .rdCh0Cmpshd => true
  | .rdCh0Duty => true
  | .wrCh0Duty _ => true
  | .rdCh0Aqctl => true
  | .wrCh0Aqctl _ => true
  | .rdCh0Dbctl => true
  | .wrCh0Dbctl _ => true
  | .rdCh0Dbred => true
  | .wrCh0Dbred _ => true
  | .rdCh0Dbfed => true
  | .wrCh0Dbfed _ => true
  | .rdCh0Outst => true
  | .rdCh1Tbctl => true
  | .wrCh1Tbctl _ => true
  | .rdCh1Tbprd => true
  | .wrCh1Tbprd _ => true
  | .rdCh1Tbctr => true
  | .rdCh1Cmpctl => true
  | .wrCh1Cmpctl _ => true
  | .rdCh1Cmp => true
  | .wrCh1Cmp _ => true
  | .rdCh1Cmpshd => true
  | .rdCh1Duty => true
  | .wrCh1Duty _ => true
  | .rdCh1Aqctl => true
  | .wrCh1Aqctl _ => true
  | .rdCh1Dbctl => true
  | .wrCh1Dbctl _ => true
  | .rdCh1Dbred => true
  | .wrCh1Dbred _ => true
  | .rdCh1Dbfed => true
  | .wrCh1Dbfed _ => true
  | .rdCh1Outst => true
  | .rdCh2Tbctl => true
  | .wrCh2Tbctl _ => true
  | .rdCh2Tbprd => true
  | .wrCh2Tbprd _ => true
  | .rdCh2Tbctr => true
  | .rdCh2Cmpctl => true
  | .wrCh2Cmpctl _ => true
  | .rdCh2Cmp => true
  | .wrCh2Cmp _ => true
  | .rdCh2Cmpshd => true
  | .rdCh2Duty => true
  | .wrCh2Duty _ => true
  | .rdCh2Aqctl => true
  | .wrCh2Aqctl _ => true
  | .rdCh2Dbctl => true
  | .wrCh2Dbctl _ => true
  | .rdCh2Dbred => true
  | .wrCh2Dbred _ => true
  | .rdCh2Dbfed => true
  | .wrCh2Dbfed _ => true
  | .rdCh2Outst => true
  | .rdLut _ => true
  | .wrLut _ _ => true
  | .slverrSize0 _ _ => true
  | .slverrSize1 _ _ => true
  | .slverrSize3 _ _ => true
  | .slverrAlign0 _ _ => true
  | .slverrAlign1 _ _ => true
  | .slverrUnmappedGlobalPage _ _ => true
  | .slverrUnmappedChannelOffset _ _ => true
  | .slverrUnmappedChannel3 _ _ => true
  | .slverrUnmappedPages2to15 _ _ => true
  | .slverrRoWrId _ => true
  | .slverrRoWrCh0Tbctr _ => true
  | .slverrRoWrCh0Cmpshd _ => true
  | .slverrRoWrCh0Outst _ => true
  | .slverrRoWrCh1Tbctr _ => true
  | .slverrRoWrCh1Cmpshd _ => true
  | .slverrRoWrCh1Outst _ => true
  | .slverrRoWrCh2Tbctr _ => true
  | .slverrRoWrCh2Cmpshd _ => true
  | .slverrRoWrCh2Outst _ => true
  | .reset => false
  | .sample => false
  | .tbTick _ => false
  | .halfTick _ => false

end Sys2Proof
end

