-- ==== Sys2Proof/WellFormed.lean ====
section
/-! DEFINITION. When an operation's operands fit its row of spec/opcode_table.json. Only the SLVERR
rows carry an address that could belong to another row; every other operand fits by its type. The
value checks of R115 are no matter of syntax: the block makes them when it runs the write (R156). -/

namespace Sys2Proof

/-- ADDR[1:0] = 0 (R84). -/
def Addr.aligned (a : Addr) : Bool := a.extractLsb' 0 2 == 0#2

/-- An odd address: the first SLVERR ALIGN row. -/
def Addr.isAlign0 (a : Addr) : Bool := a.extractLsb' 0 1 == 1#1

/-- ADDR[1:0] = 2: the second SLVERR ALIGN row, less what the first row takes (log entry 7). -/
def Addr.isAlign1 (a : Addr) : Bool := a.extractLsb' 0 2 == 2#2

/-- An aligned address of the global page past 0x18 (R56, R113). -/
def Addr.isUnmappedGlobalPage (a : Addr) : Bool :=
  a.aligned && a.extractLsb' 8 5 == 0#5 && decide (0x18 < (a.extractLsb' 0 8).toNat)

/-- An aligned address of a channel page k ≤ 2 past offset 0x2C (R56, R113). -/
def Addr.isUnmappedChannelOffset (a : Addr) : Bool :=
  a.aligned && a.extractLsb' 8 5 == 1#5 && a.extractLsb' 6 2 != 3#2 &&
    decide (0x2C < (a.extractLsb' 0 6).toNat)

/-- An aligned address with channel field 3 (R113, R117). -/
def Addr.isUnmappedChannel3 (a : Addr) : Bool :=
  a.aligned && a.extractLsb' 8 5 == 1#5 && a.extractLsb' 6 2 == 3#2

/-- An aligned address of pages 2 to 15 (R56, R81). -/
def Addr.isUnmappedPages2to15 (a : Addr) : Bool :=
  a.aligned && decide (2 ≤ (a.extractLsb' 8 5).toNat) && decide ((a.extractLsb' 8 5).toNat < 16)

/-- The operands fit the row. -/
def Instr.wellFormed : Instr → Bool
  | .rdId => true
  | .rdGctl => true
  | .wrGctl _ => true
  | .rdErr => true
  | .wrErr _ => true
  | .rdLutn => true
  | .wrLutn _ => true
  | .rdPhidx0 => true
  | .wrPhidx0 _ => true
  | .rdPhidx1 => true
  | .wrPhidx1 _ => true
  | .rdPhidx2 => true
  | .wrPhidx2 _ => true
  | .rdCh0Tbctl => true
  | .wrCh0Tbctl _ => true
  | .rdCh0Tbprd => true
  | .wrCh0Tbprd _ => true
  | .rdCh0Tbctr => true
  | .rdCh0Cmpctl => true
  | .wrCh0Cmpctl _ => true
  | .rdCh0Cmp => true
  | .wrCh0Cmp _ => true
  | .rdCh0Cmpshd => true
  | .rdCh0Duty => true
  | .wrCh0Duty _ => true
  | .rdCh0Aqctl => true
  | .wrCh0Aqctl _ => true
  | .rdCh0Dbctl => true
  | .wrCh0Dbctl _ => true
  | .rdCh0Dbred => true
  | .wrCh0Dbred _ => true
  | .rdCh0Dbfed => true
  | .wrCh0Dbfed _ => true
  | .rdCh0Outst => true
  | .rdCh1Tbctl => true
  | .wrCh1Tbctl _ => true
  | .rdCh1Tbprd => true
  | .wrCh1Tbprd _ => true
  | .rdCh1Tbctr => true
  | .rdCh1Cmpctl => true
  | .wrCh1Cmpctl _ => true
  | .rdCh1Cmp => true
  | .wrCh1Cmp _ => true
  | .rdCh1Cmpshd => true
  | .rdCh1Duty => true
  | .wrCh1Duty _ => true
  | .rdCh1Aqctl => true
  | .wrCh1Aqctl _ => true
  | .rdCh1Dbctl => true
  | .wrCh1Dbctl _ => true
  | .rdCh1Dbred => true
  | .wrCh1Dbred _ => true
  | .rdCh1Dbfed => true
  | .wrCh1Dbfed _ => true
  | .rdCh1Outst => true
  | .rdCh2Tbctl => true
  | .wrCh2Tbctl _ => true
  | .rdCh2Tbprd => true
  | .wrCh2Tbprd _ => true
  | .rdCh2Tbctr => true
  | .rdCh2Cmpctl => true
  | .wrCh2Cmpctl _ => true
  | .rdCh2Cmp => true
  | .wrCh2Cmp _ => true
  | .rdCh2Cmpshd => true
  | .rdCh2Duty => true
  | .wrCh2Duty _ => true
  | .rdCh2Aqctl => true
  | .wrCh2Aqctl _ => true
  | .rdCh2Dbctl => true
  | .wrCh2Dbctl _ => true
  | .rdCh2Dbred => true
  | .wrCh2Dbred _ => true
  | .rdCh2Dbfed => true
  | .wrCh2Dbfed _ => true
  | .rdCh2Outst => true
  | .rdLut _ => true
  | .wrLut _ _ => true
  | .slverrSize0 _ _ => true
  | .slverrSize1 _ _ => true
  | .slverrSize3 _ _ => true
  | .slverrAlign0 _ a => Addr.isAlign0 a
  | .slverrAlign1 _ a => Addr.isAlign1 a
  | .slverrUnmappedGlobalPage _ a => Addr.isUnmappedGlobalPage a
  | .slverrUnmappedChannelOffset _ a => Addr.isUnmappedChannelOffset a
  | .slverrUnmappedChannel3 _ a => Addr.isUnmappedChannel3 a
  | .slverrUnmappedPages2to15 _ a => Addr.isUnmappedPages2to15 a
  | .slverrRoWrId _ => true
  | .slverrRoWrCh0Tbctr _ => true
  | .slverrRoWrCh0Cmpshd _ => true
  | .slverrRoWrCh0Outst _ => true
  | .slverrRoWrCh1Tbctr _ => true
  | .slverrRoWrCh1Cmpshd _ => true
  | .slverrRoWrCh1Outst _ => true
  | .slverrRoWrCh2Tbctr _ => true
  | .slverrRoWrCh2Cmpshd _ => true
  | .slverrRoWrCh2Outst _ => true
  | .reset => true
  | .sample => true
  | .tbTick _ => true
  | .halfTick _ => true

end Sys2Proof
end

