-- ==== Sys2Proof/Decode.lean ====
section
/-! DEFINITION. The transaction decoder of R113, total on every header, and after it the encoder,
written from the header table of R116 and the error classes of R117. Also the byte form of a
transaction that `decodeTableWord` reads (log entry 5, DESIGN CHOICE). -/

namespace Sys2Proof

/-! ## The rows of one register -/

/-- The read of register `r` of channel `k` (R116). -/
def Instr.chRead : Ch → ChReg → Instr
  | .c0, .tbctl => .rdCh0Tbctl
  | .c0, .tbprd => .rdCh0Tbprd
  | .c0, .tbctr => .rdCh0Tbctr
  | .c0, .cmpctl => .rdCh0Cmpctl
  | .c0, .cmp => .rdCh0Cmp
  | .c0, .cmpshd => .rdCh0Cmpshd
  | .c0, .duty => .rdCh0Duty
  | .c0, .aqctl => .rdCh0Aqctl
  | .c0, .dbctl => .rdCh0Dbctl
  | .c0, .dbred => .rdCh0Dbred
  | .c0, .dbfed => .rdCh0Dbfed
  | .c0, .outst => .rdCh0Outst
  | .c1, .tbctl => .rdCh1Tbctl
  | .c1, .tbprd => .rdCh1Tbprd
  | .c1, .tbctr => .rdCh1Tbctr
  | .c1, .cmpctl => .rdCh1Cmpctl
  | .c1, .cmp => .rdCh1Cmp
  | .c1, .cmpshd => .rdCh1Cmpshd
  | .c1, .duty => .rdCh1Duty
  | .c1, .aqctl => .rdCh1Aqctl
  | .c1, .dbctl => .rdCh1Dbctl
  | .c1, .dbred => .rdCh1Dbred
  | .c1, .dbfed => .rdCh1Dbfed
  | .c1, .outst => .rdCh1Outst
  | .c2, .tbctl => .rdCh2Tbctl
  | .c2, .tbprd => .rdCh2Tbprd
  | .c2, .tbctr => .rdCh2Tbctr
  | .c2, .cmpctl => .rdCh2Cmpctl
  | .c2, .cmp => .rdCh2Cmp
  | .c2, .cmpshd => .rdCh2Cmpshd
  | .c2, .duty => .rdCh2Duty
  | .c2, .aqctl => .rdCh2Aqctl
  | .c2, .dbctl => .rdCh2Dbctl
  | .c2, .dbred => .rdCh2Dbred
  | .c2, .dbfed => .rdCh2Dbfed
  | .c2, .outst => .rdCh2Outst

/-- The write of `w` to register `r` of channel `k`; to a read-only register it is the SLVERR RO row
(R113, R116, R117). -/
def Instr.chWrite : Ch → ChReg → Word → Instr
  | .c0, .tbctl, w => .wrCh0Tbctl w
  | .c0, .tbprd, w => .wrCh0Tbprd w
  | .c0, .tbctr, w => .slverrRoWrCh0Tbctr w
  | .c0, .cmpctl, w => .wrCh0Cmpctl w
  | .c0, .cmp, w => .wrCh0Cmp w
  | .c0, .cmpshd, w => .slverrRoWrCh0Cmpshd w
  | .c0, .duty, w => .wrCh0Duty w
  | .c0, .aqctl, w => .wrCh0Aqctl w
  | .c0, .dbctl, w => .wrCh0Dbctl w
  | .c0, .dbred, w => .wrCh0Dbred w
  | .c0, .dbfed, w => .wrCh0Dbfed w
  | .c0, .outst, w => .slverrRoWrCh0Outst w
  | .c1, .tbctl, w => .wrCh1Tbctl w
  | .c1, .tbprd, w => .wrCh1Tbprd w
  | .c1, .tbctr, w => .slverrRoWrCh1Tbctr w
  | .c1, .cmpctl, w => .wrCh1Cmpctl w
  | .c1, .cmp, w => .wrCh1Cmp w
  | .c1, .cmpshd, w => .slverrRoWrCh1Cmpshd w
  | .c1, .duty, w => .wrCh1Duty w
  | .c1, .aqctl, w => .wrCh1Aqctl w
  | .c1, .dbctl, w => .wrCh1Dbctl w
  | .c1, .dbred, w => .wrCh1Dbred w
  | .c1, .dbfed, w => .wrCh1Dbfed w
  | .c1, .outst, w => .slverrRoWrCh1Outst w
  | .c2, .tbctl, w => .wrCh2Tbctl w
  | .c2, .tbprd, w => .wrCh2Tbprd w
  | .c2, .tbctr, w => .slverrRoWrCh2Tbctr w
  | .c2, .cmpctl, w => .wrCh2Cmpctl w
  | .c2, .cmp, w => .wrCh2Cmp w
  | .c2, .cmpshd, w => .slverrRoWrCh2Cmpshd w
  | .c2, .duty, w => .wrCh2Duty w
  | .c2, .aqctl, w => .wrCh2Aqctl w
  | .c2, .dbctl, w => .wrCh2Dbctl w
  | .c2, .dbred, w => .wrCh2Dbred w
  | .c2, .dbfed, w => .wrCh2Dbfed w
  | .c2, .outst, w => .slverrRoWrCh2Outst w

/-- The read of PHIDXp (R116). -/
def Instr.phidxRead : Ch → Instr
  | .c0 => .rdPhidx0
  | .c1 => .rdPhidx1
  | .c2 => .rdPhidx2

/-- The write of `w` to PHIDXp (R116). -/
def Instr.phidxWrite : Ch → Word → Instr
  | .c0, w => .wrPhidx0 w
  | .c1, w => .wrPhidx1 w
  | .c2, w => .wrPhidx2 w

/-! ## Decoding -/

/-- The W bit of a header: 1 = write (R110). -/
def headerW (h : Header) : Bool := h.getLsbD 15

/-- The SIZE field of a header: 2 = word (R110). -/
def headerSize (h : Header) : BitVec 2 := h.extractLsb' 13 2

/-- The ADDR field of a header (R110). -/
def headerAddr (h : Header) : Addr := h.extractLsb' 0 13

/-- The header that packs W, SIZE and ADDR (R110). -/
def packHeader (w : Bool) (size : BitVec 2) (a : Addr) : Header := BitVec.ofBool w ++ size ++ a

/-- The read of a register, or the write of the data word to it. -/
def readOrWrite (d : Option Word) (rd : Instr) (wr : Word → Instr) : Instr :=
  match d with
  | none => rd
  | some w => wr w

/-- A transaction on the global page, ADDR[12:8] = 0 and aligned (R113 lines 4 and 6): `off` is
ADDR[7:0], `d` the data word of a write. -/
def decodeGlobal (d : Option Word) (off : Nat) (a : Addr) : Instr :=
  match off with
  | 0x00 => readOrWrite d .rdId .slverrRoWrId
  | 0x04 => readOrWrite d .rdGctl .wrGctl
  | 0x08 => readOrWrite d .rdErr .wrErr
  | 0x0C => readOrWrite d .rdLutn .wrLutn
  | 0x10 => readOrWrite d .rdPhidx0 .wrPhidx0
  | 0x14 => readOrWrite d .rdPhidx1 .wrPhidx1
  | 0x18 => readOrWrite d .rdPhidx2 .wrPhidx2
  | _ => .slverrUnmappedGlobalPage d a

/-- The register at an offset of a channel page (R45 to R55). -/
def ChReg.ofOffset : Nat → Option ChReg
  | 0x00 => some .tbctl
  | 0x04 => some .tbprd
  | 0x08 => some .tbctr
  | 0x0C => some .cmpctl
  | 0x10 => some .cmp
  | 0x14 => some .cmpshd
  | 0x18 => some .duty
  | 0x1C => some .aqctl
  | 0x20 => some .dbctl
  | 0x24 => some .dbred
  | 0x28 => some .dbfed
  | 0x2C => some .outst
  | _ => none

/-- The channel of the channel field ADDR[7:6]; 3 is none (R113). -/
def Ch.ofField : Nat → Option Ch
  | 0 => some .c0
  | 1 => some .c1
  | 2 => some .c2
  | _ => none

/-- A transaction on a channel page, ADDR[12:8] = 1 and aligned (R113 lines 5 and 6). -/
def decodeChannel (d : Option Word) (a : Addr) : Instr :=
  match Ch.ofField (a.extractLsb' 6 2).toNat, ChReg.ofOffset (a.extractLsb' 0 6).toNat, d with
  | none, _, _ => .slverrUnmappedChannel3 d a
  | some _, none, _ => .slverrUnmappedChannelOffset d a
  | some k, some r, none => .chRead k r
  | some k, some r, some w => .chWrite k r w

/-- A transaction on the lookup-table window, ADDR[12] = 1 (R93, R113 line 3). -/
def decodeLut (d : Option Word) (i : LutIndex) : Instr := readOrWrite d (.rdLut i) (.wrLut i)

/-- An aligned word transaction (R113 lines 3 to 6). -/
def decodeWord (d : Option Word) (a : Addr) : Instr :=
  if a.getLsbD 12 then decodeLut d (a.extractLsb' 2 10)
  else match (a.extractLsb' 8 4).toNat with
    | 0 => decodeGlobal d (a.extractLsb' 0 8).toNat a
    | 1 => decodeChannel d a
    | _ => .slverrUnmappedPages2to15 d a

/-- The decoder of R113: SIZE first, then ALIGN, then the address map, then RO. It reads no block
state (R117) and rejects no header: what spells no operation is one of the SLVERR rows. An odd
address is the first ALIGN row (log entry 7, DEDUCED). -/
def decode (h : Header) (wdata : Word) : Instr :=
  let d : Option Word := if headerW h then some wdata else none
  let a := headerAddr h
  match (headerSize h).toNat with
  | 0 => .slverrSize0 d a
  | 1 => .slverrSize1 d a
  | 3 => .slverrSize3 d a
  | _ => if a.getLsbD 0 then .slverrAlign0 d a
    else if a.getLsbD 1 then .slverrAlign1 d a
    else decodeWord d a

/-! ## The byte form of a transaction (log entry 5, DESIGN CHOICE) -/

/-- Why bytes spell no transaction: fewer bytes than R110 and R118 ask for. -/
inductive DecodeError where
  /-- Fewer than the two bytes of a header. -/
  | shortHeader
  /-- A write header with fewer than the four bytes of its data word. -/
  | shortData
deriving DecidableEq, Repr

/-- A header from its two bytes, low byte first. -/
def headerOfBytes (b0 b1 : Byte) : Header := b1 ++ b0

/-- A data word from its four byte lanes, lane 0 first (R82). -/
def wordOfBytes (b0 b1 b2 b3 : Byte) : Word := b3 ++ b2 ++ b1 ++ b0

/-- The transaction at the front of a list of bytes and the bytes after it: a header, and for a write
one data word (R110, R118). -/
def decodeBytes : List Byte → Except DecodeError (Instr × List Byte)
  | b0 :: b1 :: rest =>
    let h := headerOfBytes b0 b1
    if headerW h then
      match rest with
      | c0 :: c1 :: c2 :: c3 :: rest' => .ok (decode h (wordOfBytes c0 c1 c2 c3), rest')
      | _ => .error .shortData
    else .ok (decode h 0, rest)
  | _ => .error .shortHeader

/-- The first `n` bytes of the number `w`, least significant first. -/
def bytesOf : Nat → Nat → List Byte
  | 0, _ => []
  | n + 1, w => BitVec.ofNat 8 w :: bytesOf n (w / 256)

/-- The 48 bits a table word stands for: its `nbits` bits, every bit above them 0. -/
def tableBits (nbits w : Nat) : Nat := w % 2 ^ nbits % 2 ^ 48

/-- The operation the decoder reads from a table word: bits 15..0 are the header, bits 47..16 the
data word of a write. -/
def decodeTableWord (nbits w : Nat) : Option Instr :=
  if nbits < 16 then none
  else match decodeBytes (bytesOf 6 (tableBits nbits w)) with
    | .ok (i, _) => some i
    | .error _ => none

/-! ## Encoding -/

/-- A read header of an aligned word address (R116). -/
def readHeader (a : Addr) : Header := packHeader false 2#2 a

/-- A write header of an aligned word address: the read header plus 0x8000 (R116). -/
def writeHeader (a : Addr) : Header := packHeader true 2#2 a

/-- The address of entry `i` of the lookup-table window, 0x1000 + 4·i (R81, R93). -/
def lutAddr (i : LutIndex) : Addr := 1#1 ++ i ++ 0#2

/-- The offset of a channel register in its page (R45 to R55). -/
def ChReg.offset : ChReg → Nat
  | .tbctl => 0x00
  | .tbprd => 0x04
  | .tbctr => 0x08
  | .cmpctl => 0x0C
  | .cmp => 0x10
  | .cmpshd => 0x14
  | .duty => 0x18
  | .aqctl => 0x1C
  | .dbctl => 0x20
  | .dbred => 0x24
  | .dbfed => 0x28
  | .outst => 0x2C

/-- The address of register `r` of channel `k`: 0x100 + 0x40·k + offset (R81). -/
def chAddr (k : Ch) (r : ChReg) : Addr := BitVec.ofNat 13 (0x100 + 0x40 * k.toNat + r.offset)

/-- The header and data word of a transaction answered SLVERR, from its direction and data (R110). -/
def encodeError (size : BitVec 2) (d : Option Word) (a : Addr) : Option (Header × Option Word) :=
  some (packHeader d.isSome size a, d)

/-- The header and, for a write, the data word of a bus transaction; none for the four internal
operations, which have no bus encoding (R112). The headers are those of R116, R117 and
spec/opcode_table.json, written out. -/
def encode : Instr → Option (Header × Option Word)
  | .rdId => some (0x4000#16, none)
  | .rdGctl => some (0x4004#16, none)
  | .wrGctl w => some (0xC004#16, some w)
  | .rdErr => some (0x4008#16, none)
  | .wrErr w => some (0xC008#16, some w)
  | .rdLutn => some (0x400C#16, none)
  | .wrLutn w => some (0xC00C#16, some w)
  | .rdPhidx0 => some (0x4010#16, none)
  | .wrPhidx0 w => some (0xC010#16, some w)
  | .rdPhidx1 => some (0x4014#16, none)
  | .wrPhidx1 w => some (0xC014#16, some w)
  | .rdPhidx2 => some (0x4018#16, none)
  | .wrPhidx2 w => some (0xC018#16, some w)
  | .rdCh0Tbctl => some (0x4100#16, none)
  | .wrCh0Tbctl w => some (0xC100#16, some w)
  | .rdCh0Tbprd => some (0x4104#16, none)
  | .wrCh0Tbprd w => some (0xC104#16, some w)
  | .rdCh0Tbctr => some (0x4108#16, none)
  | .rdCh0Cmpctl => some (0x410C#16, none)
  | .wrCh0Cmpctl w => some (0xC10C#16, some w)
  | .rdCh0Cmp => some (0x4110#16, none)
  | .wrCh0Cmp w => some (0xC110#16, some w)
  | .rdCh0Cmpshd => some (0x4114#16, none)
  | .rdCh0Duty => some (0x4118#16, none)
  | .wrCh0Duty w => some (0xC118#16, some w)
  | .rdCh0Aqctl => some (0x411C#16, none)
  | .wrCh0Aqctl w => some (0xC11C#16, some w)
  | .rdCh0Dbctl => some (0x4120#16, none)
  | .wrCh0Dbctl w => some (0xC120#16, some w)
  | .rdCh0Dbred => some (0x4124#16, none)
  | .wrCh0Dbred w => some (0xC124#16, some w)
  | .rdCh0Dbfed => some (0x4128#16, none)
  | .wrCh0Dbfed w => some (0xC128#16, some w)
  | .rdCh0Outst => some (0x412C#16, none)
  | .rdCh1Tbctl => some (0x4140#16, none)
  | .wrCh1Tbctl w => some (0xC140#16, some w)
  | .rdCh1Tbprd => some (0x4144#16, none)
  | .wrCh1Tbprd w => some (0xC144#16, some w)
  | .rdCh1Tbctr => some (0x4148#16, none)
  | .rdCh1Cmpctl => some (0x414C#16, none)
  | .wrCh1Cmpctl w => some (0xC14C#16, some w)
  | .rdCh1Cmp => some (0x4150#16, none)
  | .wrCh1Cmp w => some (0xC150#16, some w)
  | .rdCh1Cmpshd => some (0x4154#16, none)
  | .rdCh1Duty => some (0x4158#16, none)
  | .wrCh1Duty w => some (0xC158#16, some w)
  | .rdCh1Aqctl => some (0x415C#16, none)
  | .wrCh1Aqctl w => some (0xC15C#16, some w)
  | .rdCh1Dbctl => some (0x4160#16, none)
  | .wrCh1Dbctl w => some (0xC160#16, some w)
  | .rdCh1Dbred => some (0x4164#16, none)
  | .wrCh1Dbred w => some (0xC164#16, some w)
  | .rdCh1Dbfed => some (0x4168#16, none)
  | .wrCh1Dbfed w => some (0xC168#16, some w)
  | .rdCh1Outst => some (0x416C#16, none)
  | .rdCh2Tbctl => some (0x4180#16, none)
  | .wrCh2Tbctl w => some (0xC180#16, some w)
  | .rdCh2Tbprd => some (0x4184#16, none)
  | .wrCh2Tbprd w => some (0xC184#16, some w)
  | .rdCh2Tbctr => some (0x4188#16, none)
  | .rdCh2Cmpctl => some (0x418C#16, none)
  | .wrCh2Cmpctl w => some (0xC18C#16, some w)
  | .rdCh2Cmp => some (0x4190#16, none)
  | .wrCh2Cmp w => some (0xC190#16, some w)
  | .rdCh2Cmpshd => some (0x4194#16, none)
  | .rdCh2Duty => some (0x4198#16, none)
  | .wrCh2Duty w => some (0xC198#16, some w)
  | .rdCh2Aqctl => some (0x419C#16, none)
  | .wrCh2Aqctl w => some (0xC19C#16, some w)
  | .rdCh2Dbctl => some (0x41A0#16, none)
  | .wrCh2Dbctl w => some (0xC1A0#16, some w)
  | .rdCh2Dbred => some (0x41A4#16, none)
  | .wrCh2Dbred w => some (0xC1A4#16, some w)
  | .rdCh2Dbfed => some (0x41A8#16, none)
  | .wrCh2Dbfed w => some (0xC1A8#16, some w)
  | .rdCh2Outst => some (0x41AC#16, none)
  | .rdLut i => some (readHeader (lutAddr i), none)
  | .wrLut i w => some (writeHeader (lutAddr i), some w)
  | .slverrSize0 d a => encodeError 0#2 d a
  | .slverrSize1 d a => encodeError 1#2 d a
  | .slverrSize3 d a => encodeError 3#2 d a
  | .slverrAlign0 d a => encodeError 2#2 d a
  | .slverrAlign1 d a => encodeError 2#2 d a
  | .slverrUnmappedGlobalPage d a => encodeError 2#2 d a
  | .slverrUnmappedChannelOffset d a => encodeError 2#2 d a
  | .slverrUnmappedChannel3 d a => encodeError 2#2 d a
  | .slverrUnmappedPages2to15 d a => encodeError 2#2 d a
  | .slverrRoWrId w => some (0xC000#16, some w)
  | .slverrRoWrCh0Tbctr w => some (0xC108#16, some w)
  | .slverrRoWrCh0Cmpshd w => some (0xC114#16, some w)
  | .slverrRoWrCh0Outst w => some (0xC12C#16, some w)
  | .slverrRoWrCh1Tbctr w => some (0xC148#16, some w)
  | .slverrRoWrCh1Cmpshd w => some (0xC154#16, some w)
  | .slverrRoWrCh1Outst w => some (0xC16C#16, some w)
  | .slverrRoWrCh2Tbctr w => some (0xC188#16, some w)
  | .slverrRoWrCh2Cmpshd w => some (0xC194#16, some w)
  | .slverrRoWrCh2Outst w => some (0xC1AC#16, some w)
  | .reset => none
  | .sample => none
  | .tbTick _ => none
  | .halfTick _ => none

end Sys2Proof
end

