-- ==== Sys2Proof/Config.lean ====
section
/-! DEFINITION. What an implementation fixes (spec/00_scope.md R12, spec/93_implementation_defined.md
I9, I11) and the one value the spec leaves free (spec/20_memory.md R89, I2). -/

namespace Sys2Proof

/-- NCH, the number of PWM channels (R12). -/
def Config.channels : Nat := 3

/-- LUT_DEPTH, the number of lookup-table entries (R12, R351). -/
def Config.lutDepth : Nat := 1024

/-- DTC_MAX, where the dead-time age counter saturates (R12, R312). -/
def Config.dtcMax : Nat := 65536

/-- The constant the ID register reads: "PWM" in ASCII and version 1 (R40, R160). -/
def Config.idValue : Word := 0x50574D01#32

/-- LUTN after reset (R32, R430). -/
def Config.lutnReset : Nat := 1024

/-- The free draw of a lookup-table entry not written since reset (R89, R151; I2 `any value`): the
n-th draw since the run began. It has no body, so no proof can rest on its value, and two draws
need not agree. Log entry 3. -/
opaque Config.lutDraw : Nat → Word

/-- BLOCK_BASE, the place of the 8 KiB window in the platform's address map: an open parameter of
the spec (R81, R403; I9). The block itself never sees it. Log entry 6. -/
opaque Config.blockBase : Nat

/-- Where the platform sees byte address `a` of the block (R81, R403). -/
def Config.systemAddress (a : Addr) : Nat := Config.blockBase + a.toNat

end Sys2Proof
end

