-- ==== Sys2Proof/Machine/State.lean ====
section
/-! DEFINITION. The state of the block as plain data: every piece of state of spec/10_state.md R32 and
R33, the outputs of the last cycle (R152), the inputs of the coming cycles (R11), and two fields of
the model's own. Also the outcomes a step may have, and the state after reset (R430). -/

namespace Sys2Proof.Machine

/-- One value for each of the three channels, or phases (R12: NCH = NPH = 3). -/
structure PerCh (α : Type) where
  c0 : α
  c1 : α
  c2 : α
deriving DecidableEq, Repr

/-- counterMode (R45): code 0 Up, 1 Down, 2 UpDown. Code 3 is reserved and never stored (R35, R115;
log entry 11, DEDUCED). -/
inductive Mode where
  | up
  | down
  | upDown
deriving DecidableEq, Repr

/-- Direction of the next count (R33, R47): 0 Up, 1 Down. -/
inductive Dir where
  | up
  | down
deriving DecidableEq, Repr

/-- Dead-time polarity (R53): only code 0, Active-High-Complementary, is legal and ever stored (R35,
R310; log entry 11, DEDUCED). -/
inductive Polarity where
  | activeHighComplementary
deriving DecidableEq, Repr

/-- The state of one channel, field by field as in R33. -/
structure Channel where
  /-- RUN: timebase running. -/
  run : Bool
  /-- OUTEN: output pins enabled. -/
  outen : Bool
  /-- FRESH: the next TB tick is the first after a start (R196). -/
  fresh : Bool
  /-- EC: sub-step counter of the prescaler (R193). -/
  ec : BitVec 9
  /-- MODE: counterMode. -/
  mode : Mode
  /-- CLKDIV: clockDivider − 1. -/
  clkdiv : BitVec 8
  /-- PRD: periodTicks. -/
  prd : Tick
  /-- CTR: counter value. -/
  ctr : Tick
  /-- DIR: direction of the next count. -/
  dir : Dir
  /-- IMMED: compare load policy, true = immediate. -/
  immed : Bool
  /-- CMPA: active compare value. -/
  cmpa : Tick
  /-- CMPS: shadow compare value. -/
  cmps : Tick
  /-- DUTY: last duty code written. -/
  duty : Word
  /-- AQ: output-qualifier action table. -/
  aq : BitVec 16
  /-- DBEN: dead-time engine enabled. -/
  dben : Bool
  /-- POL: dead-time polarity. -/
  pol : Polarity
  /-- HALF: clockingResolution, true = HalfCycle. -/
  half : Bool
  /-- RED: riseDelayTicks. -/
  red : Tick
  /-- FED: fallDelayTicks. -/
  fed : Tick
  /-- QA: output-qualifier output for pin A. -/
  qa : Bool
  /-- QB: output-qualifier output for pin B. -/
  qb : Bool
  /-- DTC: dead-time age counter, 0 to 65536 (R312). -/
  dtc : BitVec 17
deriving DecidableEq, Repr

/-- The lookup-table RAM as byte cells at their addresses in the block's window (R81, R82). A byte
that is not listed has not been written since reset (R89; log entry 10, DESIGN CHOICE). -/
abbrev Memory := List Host.Cell

/-- What an unlisted address reads as: no value (R89, R430). -/
def Memory.unlisted : Option Byte := none

/-- The causes of an SLVERR response (R391). -/
inductive Cause where
  /-- Code 1: BUS_SIZE ≠ 2. -/
  | size
  /-- Code 2: a word transaction with BUS_ADDR[1:0] ≠ 0. -/
  | align
  /-- Code 3: an aligned address that holds no register and is outside the table window. -/
  | unmapped
  /-- Code 4: a write to a read-only register. -/
  | ro
deriving DecidableEq, Repr

/-- What the bus answered in a cycle (R111, R154, R430). -/
inductive BusResult where
  /-- No transaction was presented, so there is no response (R154; log entry 4, DESIGN CHOICE). -/
  | noTransaction
  /-- RST = 1: BUS_RESP = 0 and BUS_RDATA = 0, any transaction is ignored (R430). -/
  | inReset
  /-- OKAY with read data (0 for a write). -/
  | okay (rdata : Word)
  /-- SLVERR with its model-side cause; BUS_RDATA = 0 (R390). -/
  | slverr (cause : Cause)
deriving DecidableEq, Repr

/-- The two pins of a channel, PWM_A and PWM_B (R318). -/
structure Pins where
  a : Bool
  b : Bool
deriving DecidableEq, Repr

/-- The values of the block's input ports in one cycle (R11). -/
structure CycleInput where
  rst : Bool
  busReq : Bool
  busWe : Bool
  busSize : BitVec 2
  busAddr : Addr
  busWdata : Word
  sampleTick : Bool
deriving DecidableEq, Repr

/-- The state of the block (R32, R33), the outputs of the last cycle (R152), and the model's own
fields `inputs`, `wrote` and `draws`. -/
structure State where
  /-- ch[k] (R33). -/
  ch : PerCh Channel
  /-- G.PGEN: sample sequencer enabled. -/
  pgen : Bool
  /-- G.LUTN: table size N. -/
  lutn : BitVec 11
  /-- G.IDX[p]: tableIndex. -/
  idx : PerCh LutIndex
  /-- G.CFGERR[k]. -/
  cfgerr : PerCh Bool
  /-- G.LUTERR. -/
  luterr : Bool
  /-- G.CLAMP[k]. -/
  clamp : PerCh Bool
  /-- G.COLL[k]. -/
  coll : PerCh Bool
  /-- G.LUT, as written bytes. -/
  lut : Memory
  /-- BUS_RESP, BUS_RDATA of the last cycle (R111). -/
  bus : BusResult
  /-- The pins sampled after the rising sub-step of the last cycle (R152). -/
  pinsRise : PerCh Pins
  /-- The pins sampled after the falling sub-step of the last cycle (R152). -/
  pinsFall : PerCh Pins
  /-- Model's own: the channel whose CMP or DUTY the bus wrote in this cycle (R361; log entry 16). -/
  wrote : Option Ch
  /-- Model's own: the input ports of the coming cycles, the next one first (log entry 1). -/
  inputs : List CycleInput
  /-- Model's own: how many free draws were made (R89; log entry 3, DESIGN CHOICE). -/
  draws : Nat
deriving DecidableEq, Repr

/-- Why the machine would stop with a fault. There is no such reason: every cycle completes (R151),
a bus error is an SLVERR response and not a stop (R390), and the block has no trap (R397). -/
inductive Fault where
deriving DecidableEq, Repr

/-- Why a step would be refused. -/
inductive Refusal where
  /-- Raised by an arm of `exec` whose instruction has no meaning in the model. No arm raises it: every
  row of spec/opcode_table.json has its meaning. Safe: it could only stop a run. -/
  | notModelled (mnemonic : String)
deriving DecidableEq, Repr

/-- The three outcomes of a step, for this block. -/
abbrev Result := Host.Outcome State Fault Refusal

/-- The same value for each channel. -/
def PerCh.all {α : Type} (x : α) : PerCh α := { c0 := x, c1 := x, c2 := x }

/-- A channel after reset (R430). -/
def Channel.reset : Channel :=
  { run := false, outen := false, fresh := false, ec := 0, mode := .up, clkdiv := 0, prd := 0,
    ctr := 0, dir := .up, immed := false, cmpa := 0, cmps := 0, duty := 0, aq := 0, dben := false,
    pol := .activeHighComplementary, half := false, red := 0, fed := 0, qa := false, qb := false,
    dtc := 0 }

/-- The machine right after reset: the table of R430, the outputs of a reset cycle, no inputs, no
write in progress and no draw made (log entries 1, 3, 16). -/
def State.reset : State :=
  { ch := PerCh.all Channel.reset
    pgen := false
    lutn := BitVec.ofNat 11 Config.lutnReset
    idx := { c0 := 0, c1 := 341, c2 := 683 }
    cfgerr := PerCh.all false
    luterr := false
    clamp := PerCh.all false
    coll := PerCh.all false
    lut := []
    bus := .inReset
    pinsRise := PerCh.all { a := false, b := false }
    pinsFall := PerCh.all { a := false, b := false }
    wrote := none
    inputs := []
    draws := 0 }

end Sys2Proof.Machine
end

