-- ==== Sys2Proof/Machine/Ops.lean ====
section
/-! DEFINITION. The named operations every meaning is written with: reaching one channel, the response
of a transaction (OKAY, and SLVERR, which is what this block has in place of taking an exception,
R390), the lookup-table RAM (R89), the acceptance of configuration writes (R156), and packing bits
into a register value. -/

namespace Sys2Proof.Machine

/-! ## One value per channel -/

/-- The value of channel `k`. -/
def PerCh.get {α : Type} (t : PerCh α) : Ch → α
  | .c0 => t.c0
  | .c1 => t.c1
  | .c2 => t.c2

/-- `t` with the value of channel `k` replaced. -/
def PerCh.set {α : Type} (t : PerCh α) (k : Ch) (x : α) : PerCh α :=
  match k with
  | .c0 => { t with c0 := x }
  | .c1 => { t with c1 := x }
  | .c2 => { t with c2 := x }

/-- A per-channel value from a function of the channel. -/
def PerCh.ofFn {α : Type} (f : Ch → α) : PerCh α := { c0 := f .c0, c1 := f .c1, c2 := f .c2 }

/-- The state of channel `k`. -/
def State.chan (s : State) (k : Ch) : Channel := s.ch.get k

/-- Replaces the state of channel `k`. -/
def State.setChan (s : State) (k : Ch) (c : Channel) : State := { s with ch := s.ch.set k c }

/-- Changes the state of channel `k` by `f`. -/
def State.modChan (s : State) (k : Ch) (f : Channel → Channel) : State :=
  s.setChan k (f (s.chan k))

/-! ## Register values -/

/-- A word with bit `n` equal to `b` and every other bit 0. -/
def bitAt (b : Bool) (n : Nat) : Word := BitVec.ofNat 32 b.toNat <<< n

/-- Three bits, channel 0's at bit `n`, channel 1's at n + 1, channel 2's at n + 2 (R161, R163). -/
def bitsAt (t : PerCh Bool) (n : Nat) : Word :=
  bitAt t.c0 n ||| bitAt t.c1 (n + 1) ||| bitAt t.c2 (n + 2)

/-- A field zero-extended into a word. -/
def zext {n : Nat} (v : BitVec n) : Word := v.setWidth 32

/-! ## Responses -/

/-- Ends the transaction with a response. -/
def State.respond (s : State) (r : BusResult) : State := { s with bus := r }

/-- `respond OKAY(d)` (R15): the operation completes with read data `d`. -/
def okay (d : Word) (s : State) : Result := .next (s.respond (.okay d))

/-- `respond SLVERR(cause)` (R15, R390): the error response; no state of the block changes, nothing is
saved, masked or redirected (R397), and the cycle goes on. -/
def slverr (c : Cause) (s : State) : Result := .next (s.respond (.slverr c))

/-- A read of a register: OKAY with the register's value in the state at the start of the cycle
(R155). -/
def readReg (f : State → Word) (s : State) : Result := okay (f s) s

/-- BUS_RESP of a response: 0 OKAY, 1 SLVERR; none where no transaction was presented (R11, R111). -/
def BusResult.busResp : BusResult → Option (BitVec 1)
  | .noTransaction => none
  | .inReset => some 0
  | .okay _ => some 0
  | .slverr _ => some 1

/-- BUS_RDATA of a response (R111, R390, R430). -/
def BusResult.busRdata : BusResult → Option Word
  | .noTransaction => none
  | .inReset => some 0
  | .okay d => some d
  | .slverr _ => some 0

/-- The model-side code of a cause, and its priority, 1 the highest (R391). -/
def Cause.code : Cause → Nat
  | .size => 1
  | .align => 2
  | .unmapped => 3
  | .ro => 4

/-! ## The lookup-table RAM -/

/-- The byte at an address, if it has been written since reset. -/
def Memory.readByte : Memory → Nat → Option Byte
  | [], _ => Memory.unlisted
  | (a, b) :: m, x => if x = a then some b else Memory.readByte m x

/-- Writes one byte, keeping the addresses strictly rising. -/
def Memory.writeByte : Memory → Nat → Byte → Memory
  | [], x, v => [(x, v)]
  | (a, b) :: m, x, v =>
    if x < a then (x, v) :: (a, b) :: m
    else if x = a then (x, v) :: m
    else (a, b) :: Memory.writeByte m x v

/-- The byte address of lane `j` of entry `i`: 0x1000 + 4·i + j (R81, R82). -/
def lutByte (i : LutIndex) (j : Nat) : Nat := 0x1000 + 4 * i.toNat + j

/-- Lane `j` of a word: bits [8j+7:8j] (R82). -/
def lane (w : Word) (j : Nat) : Byte := w.extractLsb' (8 * j) 8

/-- The word of four lanes (R82). -/
def ofLanes (b0 b1 b2 b3 : Byte) : Word := b3 ++ b2 ++ b1 ++ b0

/-- `LutWrite(i, v)` (R89) on the RAM. -/
def Memory.writeEntry (m : Memory) (i : LutIndex) (v : Word) : Memory :=
  (((m.writeByte (lutByte i 0) (lane v 0)).writeByte (lutByte i 1) (lane v 1)).writeByte
    (lutByte i 2) (lane v 2)).writeByte (lutByte i 3) (lane v 3)

/-- Entry `i` if it has been written since reset. -/
def Memory.readEntry (m : Memory) (i : LutIndex) : Option Word :=
  match m.readByte (lutByte i 0), m.readByte (lutByte i 1), m.readByte (lutByte i 2),
      m.readByte (lutByte i 3) with
  | some b0, some b1, some b2, some b3 => some (ofLanes b0 b1 b2 b3)
  | _, _, _, _ => none

/-- The canonical form of the RAM: addresses strictly rising, every cell in the table window, and
every entry listed whole or not at all (log entry 10). No cell can equal what an unlisted address
reads as, since that is no value. -/
abbrev Memory.wf (m : Memory) : Prop :=
  m.Pairwise (fun x y => x.1 < y.1) ∧
    ∀ c ∈ m, 0x1000 ≤ c.1 ∧ c.1 < 0x2000 ∧
      ∀ j : Fin 4, (m.readByte (c.1 / 4 * 4 + j.val)).isSome = true

/-- The state after one more free draw was made (log entry 3, DESIGN CHOICE). -/
def State.countDraw (s : State) : State := { s with draws := s.draws + 1 }

/-- `LutRead(i)` (R89): the entry, or a free draw if it has not been written since reset, with the
state after the read. -/
def lutRead (i : LutIndex) (s : State) : Word × State :=
  match s.lut.readEntry i with
  | some v => (v, s)
  | none => (Config.lutDraw s.draws, s.countDraw)

/-- `LutWrite(i, v)` (R89). -/
def State.lutWrite (s : State) (i : LutIndex) (v : Word) : State :=
  { s with lut := s.lut.writeEntry i v }

end Sys2Proof.Machine
end

