-- ==== Sys2Proof/Machine/BusErrors.lean ====
section
/-! DEFINITION. The transactions that spell no operation (spec/30_encoding.md R117): each is answered SLVERR
with its cause and changes no state (spec/60_exceptions.md R390, R391). -/

namespace Sys2Proof.Machine


/-- SLVERR SIZE (SIZE=0) (R391). The operands are ignored. -/
def execSlverrSize0 (_d : Option Word) (_a : Addr) (s : State) : Result := slverr .size s

/-- SLVERR SIZE (SIZE=1) (R391). The operands are ignored. -/
def execSlverrSize1 (_d : Option Word) (_a : Addr) (s : State) : Result := slverr .size s

/-- SLVERR SIZE (SIZE=3) (R391). The operands are ignored. -/
def execSlverrSize3 (_d : Option Word) (_a : Addr) (s : State) : Result := slverr .size s

/-- SLVERR ALIGN (ADDR[0]=1) (R391). The operands are ignored. -/
def execSlverrAlign0 (_d : Option Word) (_a : Addr) (s : State) : Result := slverr .align s

/-- SLVERR ALIGN (ADDR[1]=1) (R391). The operands are ignored. -/
def execSlverrAlign1 (_d : Option Word) (_a : Addr) (s : State) : Result := slverr .align s

/-- SLVERR UNMAPPED (global page) (R391). The operands are ignored. -/
def execSlverrUnmappedGlobalPage (_d : Option Word) (_a : Addr) (s : State) : Result := slverr .unmapped s

/-- SLVERR UNMAPPED (channel offset) (R391). The operands are ignored. -/
def execSlverrUnmappedChannelOffset (_d : Option Word) (_a : Addr) (s : State) : Result := slverr .unmapped s

/-- SLVERR UNMAPPED (channel 3) (R391). The operands are ignored. -/
def execSlverrUnmappedChannel3 (_d : Option Word) (_a : Addr) (s : State) : Result := slverr .unmapped s

/-- SLVERR UNMAPPED (pages 2..15) (R391). The operands are ignored. -/
def execSlverrUnmappedPages2to15 (_d : Option Word) (_a : Addr) (s : State) : Result := slverr .unmapped s

/-- SLVERR RO (WR ID) (R391). The operands are ignored. -/
def execSlverrRoWrId (_w : Word) (s : State) : Result := slverr .ro s

/-- SLVERR RO (WR CH0.TBCTR) (R391). The operands are ignored. -/
def execSlverrRoWrCh0Tbctr (_w : Word) (s : State) : Result := slverr .ro s

/-- SLVERR RO (WR CH0.CMPSHD) (R391). The operands are ignored. -/
def execSlverrRoWrCh0Cmpshd (_w : Word) (s : State) : Result := slverr .ro s

/-- SLVERR RO (WR CH0.OUTST) (R391). The operands are ignored. -/
def execSlverrRoWrCh0Outst (_w : Word) (s : State) : Result := slverr .ro s

/-- SLVERR RO (WR CH1.TBCTR) (R391). The operands are ignored. -/
def execSlverrRoWrCh1Tbctr (_w : Word) (s : State) : Result := slverr .ro s

/-- SLVERR RO (WR CH1.CMPSHD) (R391). The operands are ignored. -/
def execSlverrRoWrCh1Cmpshd (_w : Word) (s : State) : Result := slverr .ro s

/-- SLVERR RO (WR CH1.OUTST) (R391). The operands are ignored. -/
def execSlverrRoWrCh1Outst (_w : Word) (s : State) : Result := slverr .ro s

/-- SLVERR RO (WR CH2.TBCTR) (R391). The operands are ignored. -/
def execSlverrRoWrCh2Tbctr (_w : Word) (s : State) : Result := slverr .ro s

/-- SLVERR RO (WR CH2.CMPSHD) (R391). The operands are ignored. -/
def execSlverrRoWrCh2Cmpshd (_w : Word) (s : State) : Result := slverr .ro s

/-- SLVERR RO (WR CH2.OUTST) (R391). The operands are ignored. -/
def execSlverrRoWrCh2Outst (_w : Word) (s : State) : Result := slverr .ro s

end Sys2Proof.Machine
end

