-- ==== Sys2Proof/Machine/Flags.lean ====
section
/-! DEFINITION. The sticky error flags (spec/10_state.md R36, spec/60_exceptions.md R393, R394): setting
one, clearing by write 1 (spec/40_cycle_global.md R166), and the ERR register's value (R163). The
block has no condition codes (R36); the direction bit is written by the timebase (R197). -/

namespace Sys2Proof.Machine

/-- `set_sticky(CFGERR[k])` (R393). -/
def State.setCfgerr (s : State) (k : Ch) : State := { s with cfgerr := s.cfgerr.set k true }

/-- `set_sticky(LUTERR)` (R393). -/
def State.setLuterr (s : State) : State := { s with luterr := true }

/-- `set_sticky(CLAMP[k])` (R393, R247). -/
def State.setClamp (s : State) (k : Ch) : State := { s with clamp := s.clamp.set k true }

/-- `set_sticky(COLL[k])` (R393, R361). -/
def State.setColl (s : State) (k : Ch) : State := { s with coll := s.coll.set k true }

/-- CLAMP[k] set when `b` holds, else the state as it is. -/
def State.clampIf (s : State) (k : Ch) (b : Bool) : State := if b then s.setClamp k else s

/-- Three sticky flags after a write of `w` whose bits n, n + 1, n + 2 clear them (R166). -/
def clearBits (t : PerCh Bool) (w : Word) (n : Nat) : PerCh Bool :=
  PerCh.ofFn fun k => t.get k && !w.getLsbD (n + k.toNat)

/-- The flags after a write of `w` to ERR: each flag whose bit is 1 is cleared (R166). -/
def State.clearFlags (s : State) (w : Word) : State :=
  { s with
    cfgerr := clearBits s.cfgerr w 0
    luterr := s.luterr && !w.getLsbD 3
    clamp := clearBits s.clamp w 4
    coll := clearBits s.coll w 8 }

/-- The value of ERR: COLL at [10:8], CLAMP at [6:4], LUTERR at [3], CFGERR at [2:0] (R42, R163). -/
def errValue (s : State) : Word :=
  bitsAt s.coll 8 ||| bitsAt s.clamp 4 ||| bitAt s.luterr 3 ||| bitsAt s.cfgerr 0

/-- The mask of every defined ERR bit (R120, R166). -/
def errMask : Word := 0x77F#32

end Sys2Proof.Machine
end

