-- ==== Sys2Proof/Machine/Access.lean ====
section
/-! DEFINITION. Acceptance of configuration writes (spec/40_cycle_global.md R156): a write whose operands
are `none` is illegal in value (spec/30_encoding.md R115). A rejected write changes nothing but its
sticky flag and is answered OKAY (spec/60_exceptions.md R392). -/

namespace Sys2Proof.Machine

/-- A rejected configuration write to channel `k`: CFGERR[k] set, OKAY(0) (R156). -/
def rejectChannel (k : Ch) (s : State) : Result := okay 0 (s.setCfgerr k)

/-- A rejected write to LUTN, PHIDXp or a table entry: LUTERR set, OKAY(0) (R156). -/
def rejectTable (s : State) : Result := okay 0 s.setLuterr

/-- A configuration write to channel `k`: accepted only while the channel is stopped and the value is
legal, else rejected (R156). -/
def acceptChannel {α : Type} (k : Ch) (operand : Option α) (upd : α → State → State) (s : State) :
    Result :=
  match operand with
  | none => rejectChannel k s
  | some x => if (s.chan k).run then rejectChannel k s else okay 0 (upd x s)

/-- A write to LUTN, PHIDXp or a table entry: accepted only while PGEN = 0 and the value is legal, else
rejected (R156, R93). -/
def acceptTable {α : Type} (operand : Option α) (upd : α → State → State) (s : State) : Result :=
  match operand with
  | none => rejectTable s
  | some x => if s.pgen then rejectTable s else okay 0 (upd x s)

end Sys2Proof.Machine
end

