-- ==== Sys2Proof/Machine/Operands.lean ====
section
/-! DEFINITION. Operand assembly (spec/30_encoding.md R114) and the legality of a configuration write's
value (R115): each function cuts the operands out of WDATA and answers `none` where the write is
illegal in value. -/

namespace Sys2Proof.Machine

/-- The operands of a configuration write, unless a "must be 0" bit is set or the value is refused. -/
def legalIf {α : Type} (legal : Bool) (x : α) : Option α := if legal then some x else none

/-- MODE from its code; 3 is reserved (R45, R114, R115). -/
def Mode.ofBits (b : BitVec 2) : Option Mode :=
  match b.toNat with
  | 0 => some .up
  | 1 => some .down
  | 2 => some .upDown
  | _ => none

/-- The code of a mode (R45). -/
def Mode.bits : Mode → BitVec 2
  | .up => 0
  | .down => 1
  | .upDown => 2

/-- The code of a direction: 0 Up, 1 Down (R47). -/
def Dir.bit : Dir → BitVec 1
  | .up => 0
  | .down => 1

/-- The code of the polarity (R53). -/
def Polarity.bits : Polarity → BitVec 2
  | .activeHighComplementary => 0

/-- POL from its code; 1 to 3 are reserved (R53, R115). -/
def Polarity.ofBits (b : BitVec 2) : Option Polarity :=
  if b = 0 then some .activeHighComplementary else none

/-- LUTN: N = WDATA[10:0], 2 to 1024; WDATA[31:11] must be 0. -/
def lutnOperand (w : Word) : Option (BitVec 11) :=
  let n : BitVec 11 := w.extractLsb' 0 11
  legalIf (w.extractLsb' 11 21 == 0#21 && decide (2 ≤ n.toNat) && decide (n.toNat ≤ 1024)) n

/-- PHIDXp: idx = WDATA[9:0], below N; WDATA[31:10] must be 0. -/
def phidxOperand (n : BitVec 11) (w : Word) : Option LutIndex :=
  let i : LutIndex := w.extractLsb' 0 10
  legalIf (w.extractLsb' 10 22 == 0#22 && decide (i.toNat < n.toNat)) i

/-- TBCTL: MODE = WDATA[1:0], not 3; CLKDIV = WDATA[15:8]; the other bits must be 0. -/
def tbctlOperand (w : Word) : Option (Mode × BitVec 8) :=
  match Mode.ofBits (w.extractLsb' 0 2) with
  | none => none
  | some m =>
    legalIf (w.extractLsb' 2 6 == 0#6 && w.extractLsb' 16 16 == 0#16) (m, w.extractLsb' 8 8)

/-- A 16-bit operand WDATA[15:0]; WDATA[31:16] must be 0 (TBPRD, AQCTL, DBRED, DBFED). -/
def halfOperand (w : Word) : Option (BitVec 16) :=
  legalIf (w.extractLsb' 16 16 == 0#16) (w.extractLsb' 0 16)

/-- CMPCTL: IMMED = WDATA[0]; WDATA[31:1] must be 0. -/
def cmpctlOperand (w : Word) : Option Bool :=
  legalIf (w.extractLsb' 1 31 == 0#31) (w.getLsbD 0)

/-- CMP: value = WDATA[31:16]; WDATA[15:0] ignored. -/
def cmpOperand (w : Word) : Tick := w.extractLsb' 16 16

/-- DBCTL's operands (R114). -/
structure DbctlOperand where
  en : Bool
  pol : Polarity
  half : Bool
deriving DecidableEq, Repr

/-- DBCTL: EN = WDATA[0]; POL = WDATA[2:1], 0 only; HALF = WDATA[3]; WDATA[31:4] must be 0. -/
def dbctlOperand (w : Word) : Option DbctlOperand :=
  match Polarity.ofBits (w.extractLsb' 1 2) with
  | none => none
  | some p =>
    legalIf (w.extractLsb' 4 28 == 0#28) { en := w.getLsbD 0, pol := p, half := w.getLsbD 3 }

/-- GCTL: RUN[k] = WDATA[k]. -/
def gctlRun (w : Word) (k : Ch) : Bool := w.getLsbD k.toNat

/-- GCTL: PGEN = WDATA[8]. -/
def gctlPgen (w : Word) : Bool := w.getLsbD 8

/-- GCTL: OUTEN[k] = WDATA[16+k]. -/
def gctlOuten (w : Word) (k : Ch) : Bool := w.getLsbD (16 + k.toNat)

end Sys2Proof.Machine
end

