-- ==== Sys2Proof/Machine/Convert.lean ====
section
/-! DEFINITION. The duty converter and the compare path (spec/42_compare.md R236, R237, R242, R244, and
spec/41_timebase.md R192). -/

namespace Sys2Proof.Machine

/-- 1.0 as a Q15.16 code (R236). -/
def dutyOne : Int := 0x10000

/-- Whether a code is an out-of-range ratio: below 0 or above 1.0 (R236, R237). -/
def outOfRange (code : Word) : Bool := decide (code.toInt < 0) || decide (dutyOne < code.toInt)

/-- The ratio of a code, clamped to [0, 1.0], in units of 2^-16 (R237). -/
def clampedRatio (code : Word) : Nat := (min (max code.toInt 0) dutyOne).toNat

/-- The multiplier M of R237: PRD + 1 in Down, PRD otherwise. -/
def dutyScale (mode : Mode) (prd : Tick) : Nat :=
  match mode with
  | .up => prd.toNat
  | .down => prd.toNat + 1
  | .upDown => prd.toNat

/-- The compare value of a code: D × M rounded half up, capped at PRD (R237). -/
def convertValue (code : Word) (mode : Mode) (prd : Tick) : Tick :=
  BitVec.ofNat 16 (min ((clampedRatio code * dutyScale mode prd + 0x8000) / 0x10000) prd.toNat)

/-- `convert(code, MODE, PRD)` of R237. -/
def convert (code : Word) (mode : Mode) (prd : Tick) : Tick × Bool :=
  (convertValue code mode prd, outOfRange code)

/-- `cmp_write(k, v)` of R244 on the channel: CMPS, and CMPA too with IMMED = 1. -/
def Channel.cmpWrite (c : Channel) (v : Tick) : Channel :=
  { c with cmps := v, cmpa := if c.immed then v else c.cmpa }

/-- `duty_write(k, code)` of R242 on the channel: DUTY takes the code as written and the compare path
its converted value. -/
def Channel.dutyWrite (c : Channel) (code : Word) : Channel :=
  { c.cmpWrite (convertValue code c.mode c.prd) with duty := code }

/-- `duty_write(k, code)` of R242, used by the bus and by the sample sequencer. -/
def State.dutyWrite (s : State) (k : Ch) (code : Word) : State :=
  (s.modChan k fun c => c.dutyWrite code).clampIf k (outOfRange code)

/-- Whether a compare register is above the period (R192). -/
def Channel.compareAbovePeriod (c : Channel) : Bool :=
  decide (c.prd.toNat < c.cmps.toNat) || decide (c.prd.toNat < c.cmpa.toNat)

/-- The smaller of two 16-bit values. -/
def tickMin (a b : Tick) : Tick := if a.toNat ≤ b.toNat then a else b

/-- The compare registers brought within the period (R192). -/
def Channel.clampCompare (c : Channel) : Channel :=
  { c with cmps := tickMin c.cmps c.prd, cmpa := tickMin c.cmpa c.prd }

/-- `clamp_compare_to_period(k)` of R192. -/
def State.clampCompareToPeriod (s : State) (k : Ch) : State :=
  if (s.chan k).compareAbovePeriod then (s.modChan k Channel.clampCompare).setClamp k else s

/-- The bus writes CMP or DUTY of channel `k` in this cycle (R358, R361; log entry 16). -/
def State.markWrote (s : State) (k : Ch) : State := { s with wrote := some k }

end Sys2Proof.Machine
end

