-- ==== Sys2Proof/Machine/Compare.lean ====
section
/-! DEFINITION. The compare registers CMPCTL, CMP, CMPSHD and DUTY of each channel (spec/42_compare.md R230,
R231, R238 to R240, R242, R243). -/

namespace Sys2Proof.Machine

/-- The value of CMPCTL (R48, R231). -/
def cmpctlValue (k : Ch) (s : State) : Word := bitAt (s.chan k).immed 0

/-- The value of CMP: the active compare value in the high half (R49, R239). -/
def cmpValue (k : Ch) (s : State) : Word := zext (s.chan k).cmpa <<< 16

/-- The value of CMPSHD: the shadow compare value in the high half (R50, R240). -/
def cmpshdValue (k : Ch) (s : State) : Word := zext (s.chan k).cmps <<< 16

/-- The value of DUTY: the last code as written (R51, R243). -/
def dutyValue (k : Ch) (s : State) : Word := (s.chan k).duty

/-- The state after an accepted CMPCTL write (R230). -/
def State.setImmed (k : Ch) (b : Bool) (s : State) : State :=
  s.modChan k fun c => { c with immed := b }

/-- WR CHk.CMPCTL (R230). -/
def writeCmpctl (k : Ch) (w : Word) (s : State) : Result :=
  acceptChannel k (cmpctlOperand w) (State.setImmed k) s

/-- The state after a CMP write of `v`: clamped to PRD, flagged when it was above (R238). -/
def State.cmpBusWrite (k : Ch) (v : Tick) (s : State) : State :=
  (s.modChan k fun c => c.cmpWrite (tickMin v c.prd)).clampIf k
    (decide ((s.chan k).prd.toNat < v.toNat))

/-- WR CHk.CMP (R238): always accepted (R157). -/
def writeCmp (k : Ch) (w : Word) (s : State) : Result :=
  okay 0 ((State.cmpBusWrite k (cmpOperand w) s).markWrote k)

/-- WR CHk.DUTY (R242): always accepted (R157). -/
def writeDuty (k : Ch) (w : Word) (s : State) : Result := okay 0 ((s.dutyWrite k w).markWrote k)

/-- RD CH0.CMPCTL (R231). -/
def execRdCh0Cmpctl (s : State) : Result := readReg (cmpctlValue .c0) s

/-- WR CH0.CMPCTL (R230). -/
def execWrCh0Cmpctl (w : Word) (s : State) : Result := writeCmpctl .c0 w s

/-- RD CH0.CMP (R239). -/
def execRdCh0Cmp (s : State) : Result := readReg (cmpValue .c0) s

/-- WR CH0.CMP (R238). -/
def execWrCh0Cmp (w : Word) (s : State) : Result := writeCmp .c0 w s

/-- RD CH0.CMPSHD (R240). -/
def execRdCh0Cmpshd (s : State) : Result := readReg (cmpshdValue .c0) s

/-- RD CH0.DUTY (R243). -/
def execRdCh0Duty (s : State) : Result := readReg (dutyValue .c0) s

/-- WR CH0.DUTY (R242). -/
def execWrCh0Duty (w : Word) (s : State) : Result := writeDuty .c0 w s

/-- RD CH1.CMPCTL (R231). -/
def execRdCh1Cmpctl (s : State) : Result := readReg (cmpctlValue .c1) s

/-- WR CH1.CMPCTL (R230). -/
def execWrCh1Cmpctl (w : Word) (s : State) : Result := writeCmpctl .c1 w s

/-- RD CH1.CMP (R239). -/
def execRdCh1Cmp (s : State) : Result := readReg (cmpValue .c1) s

/-- WR CH1.CMP (R238). -/
def execWrCh1Cmp (w : Word) (s : State) : Result := writeCmp .c1 w s

/-- RD CH1.CMPSHD (R240). -/
def execRdCh1Cmpshd (s : State) : Result := readReg (cmpshdValue .c1) s

/-- RD CH1.DUTY (R243). -/
def execRdCh1Duty (s : State) : Result := readReg (dutyValue .c1) s

/-- WR CH1.DUTY (R242). -/
def execWrCh1Duty (w : Word) (s : State) : Result := writeDuty .c1 w s

/-- RD CH2.CMPCTL (R231). -/
def execRdCh2Cmpctl (s : State) : Result := readReg (cmpctlValue .c2) s

/-- WR CH2.CMPCTL (R230). -/
def execWrCh2Cmpctl (w : Word) (s : State) : Result := writeCmpctl .c2 w s

/-- RD CH2.CMP (R239). -/
def execRdCh2Cmp (s : State) : Result := readReg (cmpValue .c2) s

/-- WR CH2.CMP (R238). -/
def execWrCh2Cmp (w : Word) (s : State) : Result := writeCmp .c2 w s

/-- RD CH2.CMPSHD (R240). -/
def execRdCh2Cmpshd (s : State) : Result := readReg (cmpshdValue .c2) s

/-- RD CH2.DUTY (R243). -/
def execRdCh2Duty (s : State) : Result := readReg (dutyValue .c2) s

/-- WR CH2.DUTY (R242). -/
def execWrCh2Duty (w : Word) (s : State) : Result := writeDuty .c2 w s

end Sys2Proof.Machine
end

