-- ==== Sys2Proof/Machine/DeadTimeEngine.lean ====
section
/-! DEFINITION. The dead-time engine's step and outputs, and the pins (spec/44_deadtime.md R312 to R318). -/

namespace Sys2Proof.Machine

/-- `dt_step(k, changed)` of R313: the age counter restarts when QA changed, else counts and saturates
at 65536. -/
def Channel.dtStep (c : Channel) (changed : Bool) : Channel :=
  { c with dtc := if changed then 0 else BitVec.ofNat 17 (min (c.dtc.toNat + 1) Config.dtcMax) }

/-- OUT_A: with the engine enabled, QA delayed by RED on its rising edge (R314); bypassed, QA (R316). -/
def Channel.outA (c : Channel) : Bool :=
  if c.dben then c.qa && decide (c.red.toNat ≤ c.dtc.toNat) else c.qa

/-- OUT_B: with the engine enabled, the inverse of QA delayed by FED on its rising edge (R314);
bypassed, QB (R316). -/
def Channel.outB (c : Channel) : Bool :=
  if c.dben then !c.qa && decide (c.fed.toNat ≤ c.dtc.toNat) else c.qb

/-- The pins of a channel: the outputs gated by OUTEN (R34, R318). -/
def Channel.pins (c : Channel) : Pins := { a := c.outen && c.outA, b := c.outen && c.outB }

/-- The six pins (R152). -/
def State.pins (s : State) : PerCh Pins := PerCh.ofFn fun k => (s.chan k).pins

end Sys2Proof.Machine
end

