-- ==== Sys2Proof/Machine/DeadTime.lean ====
section
/-! DEFINITION. The dead-time registers DBCTL, DBRED, DBFED and the output status OUTST of each channel
(spec/44_deadtime.md R310, R311, R315, R319). -/

namespace Sys2Proof.Machine

/-- The value of DBCTL: HALF at [3], POL at [2:1], DBEN at [0] (R53, R315). -/
def dbctlValue (k : Ch) (s : State) : Word :=
  bitAt (s.chan k).half 3 ||| zext (s.chan k).pol.bits <<< 1 ||| bitAt (s.chan k).dben 0

/-- The value of DBRED (R54, R315). -/
def dbredValue (k : Ch) (s : State) : Word := zext (s.chan k).red

/-- The value of DBFED (R54, R315). -/
def dbfedValue (k : Ch) (s : State) : Word := zext (s.chan k).fed

/-- The value of OUTST: PWM_B, PWM_A, OUT_B, OUT_A, QB, QA at bits 5 down to 0 (R55, R319). -/
def outstValue (k : Ch) (s : State) : Word :=
  bitAt (s.chan k).pins.b 5 ||| bitAt (s.chan k).pins.a 4 ||| bitAt (s.chan k).outB 3 |||
    bitAt (s.chan k).outA 2 ||| bitAt (s.chan k).qb 1 ||| bitAt (s.chan k).qa 0

/-- The state after an accepted DBCTL write: DTC is not changed (R310). -/
def State.setDbctl (k : Ch) (x : DbctlOperand) (s : State) : State :=
  s.modChan k fun c => { c with dben := x.en, pol := x.pol, half := x.half }

/-- The state after an accepted DBRED write (R311). -/
def State.setRed (k : Ch) (v : Tick) (s : State) : State := s.modChan k fun c => { c with red := v }

/-- The state after an accepted DBFED write (R311). -/
def State.setFed (k : Ch) (v : Tick) (s : State) : State := s.modChan k fun c => { c with fed := v }

/-- WR CHk.DBCTL (R310). -/
def writeDbctl (k : Ch) (w : Word) (s : State) : Result :=
  acceptChannel k (dbctlOperand w) (State.setDbctl k) s

/-- WR CHk.DBRED (R311). -/
def writeDbred (k : Ch) (w : Word) (s : State) : Result :=
  acceptChannel k (halfOperand w) (State.setRed k) s

/-- WR CHk.DBFED (R311). -/
def writeDbfed (k : Ch) (w : Word) (s : State) : Result :=
  acceptChannel k (halfOperand w) (State.setFed k) s

/-- RD CH0.DBCTL (R315). -/
def execRdCh0Dbctl (s : State) : Result := readReg (dbctlValue .c0) s

/-- WR CH0.DBCTL (R310). -/
def execWrCh0Dbctl (w : Word) (s : State) : Result := writeDbctl .c0 w s

/-- RD CH0.DBRED (R315). -/
def execRdCh0Dbred (s : State) : Result := readReg (dbredValue .c0) s

/-- WR CH0.DBRED (R311). -/
def execWrCh0Dbred (w : Word) (s : State) : Result := writeDbred .c0 w s

/-- RD CH0.DBFED (R315). -/
def execRdCh0Dbfed (s : State) : Result := readReg (dbfedValue .c0) s

/-- WR CH0.DBFED (R311). -/
def execWrCh0Dbfed (w : Word) (s : State) : Result := writeDbfed .c0 w s

/-- RD CH0.OUTST (R319). -/
def execRdCh0Outst (s : State) : Result := readReg (outstValue .c0) s

/-- RD CH1.DBCTL (R315). -/
def execRdCh1Dbctl (s : State) : Result := readReg (dbctlValue .c1) s

/-- WR CH1.DBCTL (R310). -/
def execWrCh1Dbctl (w : Word) (s : State) : Result := writeDbctl .c1 w s

/-- RD CH1.DBRED (R315). -/
def execRdCh1Dbred (s : State) : Result := readReg (dbredValue .c1) s

/-- WR CH1.DBRED (R311). -/
def execWrCh1Dbred (w : Word) (s : State) : Result := writeDbred .c1 w s

/-- RD CH1.DBFED (R315). -/
def execRdCh1Dbfed (s : State) : Result := readReg (dbfedValue .c1) s

/-- WR CH1.DBFED (R311). -/
def execWrCh1Dbfed (w : Word) (s : State) : Result := writeDbfed .c1 w s

/-- RD CH1.OUTST (R319). -/
def execRdCh1Outst (s : State) : Result := readReg (outstValue .c1) s

/-- RD CH2.DBCTL (R315). -/
def execRdCh2Dbctl (s : State) : Result := readReg (dbctlValue .c2) s

/-- WR CH2.DBCTL (R310). -/
def execWrCh2Dbctl (w : Word) (s : State) : Result := writeDbctl .c2 w s

/-- RD CH2.DBRED (R315). -/
def execRdCh2Dbred (s : State) : Result := readReg (dbredValue .c2) s

/-- WR CH2.DBRED (R311). -/
def execWrCh2Dbred (w : Word) (s : State) : Result := writeDbred .c2 w s

/-- RD CH2.DBFED (R315). -/
def execRdCh2Dbfed (s : State) : Result := readReg (dbfedValue .c2) s

/-- WR CH2.DBFED (R311). -/
def execWrCh2Dbfed (w : Word) (s : State) : Result := writeDbfed .c2 w s

/-- RD CH2.OUTST (R319). -/
def execRdCh2Outst (s : State) : Result := readReg (outstValue .c2) s

end Sys2Proof.Machine
end

