-- ==== Sys2Proof/Machine/Global.lean ====
section
/-! DEFINITION. The global registers ID, GCTL and ERR (spec/40_cycle_global.md R160 to R166). -/

namespace Sys2Proof.Machine

/-- The value of GCTL: OUTEN at [18:16], PGEN at [8], RUN at [2:0] (R41, R161). -/
def gctlValue (s : State) : Word :=
  bitsAt (PerCh.ofFn fun k => (s.chan k).outen) 16 ||| bitAt s.pgen 8 |||
    bitsAt (PerCh.ofFn fun k => (s.chan k).run) 0

/-- RUN of a channel takes `run`; a start (0 to 1) sets FRESH and EC = 0 (R162). -/
def Channel.setRun (c : Channel) (run : Bool) : Channel :=
  if run && !c.run then { c with run := run, fresh := true, ec := 0 } else { c with run := run }

/-- OUTEN of a channel takes `en`, but enabling is refused while its configuration error flag is set
and it was off (R162). -/
def Channel.setOuten (c : Channel) (en cfgerr : Bool) : Channel :=
  { c with outen := en && !(!c.outen && cfgerr) }

/-- The part of a GCTL write that acts on channel `k` (R162). -/
def gctlChannel (w : Word) (s : State) (k : Ch) : Channel :=
  ((s.chan k).setRun (gctlRun w k)).setOuten (gctlOuten w k) (s.cfgerr.get k)

/-- The state after a GCTL write (R162). -/
def State.gctlWrite (s : State) (w : Word) : State :=
  { s with ch := PerCh.ofFn (gctlChannel w s), pgen := gctlPgen w }

/-- RD ID (R160). -/
def execRdId (s : State) : Result := readReg (fun _ => Config.idValue) s

/-- RD GCTL (R161). -/
def execRdGctl (s : State) : Result := readReg gctlValue s

/-- WR GCTL (R162): never rejected. -/
def execWrGctl (w : Word) (s : State) : Result := okay 0 (s.gctlWrite w)

/-- RD ERR (R163). -/
def execRdErr (s : State) : Result := readReg errValue s

/-- WR ERR (R166): write 1 to clear. -/
def execWrErr (w : Word) (s : State) : Result := okay 0 (s.clearFlags w)

end Sys2Proof.Machine
end

