-- ==== Sys2Proof/Machine/QualifierEngine.lean ====
section
/-! DEFINITION. The output-qualifier state machine (spec/43_output_qualifier.md R270 to R274): events,
their priority, the action table and its fields. -/

namespace Sys2Proof.Machine

/-- Actions and their 2-bit codes 0 to 3 (R270). -/
inductive Action where
  | noChange
  | forceLow
  | forceHigh
  | toggle
deriving DecidableEq, Repr

/-- The action of a 2-bit code (R270). -/
def Action.ofBits (b : BitVec 2) : Action :=
  match b.toNat with
  | 0 => .noChange
  | 1 => .forceLow
  | 2 => .forceHigh
  | _ => .toggle

/-- The 2-bit code of an action (R270). -/
def Action.bits : Action → BitVec 2
  | .noChange => 0
  | .forceLow => 1
  | .forceHigh => 2
  | .toggle => 3

/-- The events of the action table (R52). -/
inductive Event where
  | zro
  | prd
  | cau
  | cad
deriving DecidableEq, Repr

/-- The two pins of the action table (R52). -/
inductive Pin where
  | a
  | b
deriving DecidableEq, Repr

/-- The low bit of an event's field for pin A (R52, R273). -/
def Event.offset : Event → Nat
  | .zro => 0
  | .prd => 2
  | .cau => 4
  | .cad => 6

/-- Where a pin's fields begin: the B fields are eight bits higher (R273). -/
def Pin.offset : Pin → Nat
  | .a => 0
  | .b => 8

/-- `field(AQ, pin, e)` of R273. -/
def aqField (aq : BitVec 16) (pin : Pin) (e : Event) : Action :=
  Action.ofBits (aq.extractLsb' (pin.offset + e.offset) 2)

/-- What holds at a TB tick (R271). -/
structure Events where
  zero : Bool
  prd : Bool
  cau : Bool
  cad : Bool
  dir : Dir
deriving DecidableEq, Repr

/-- `events(k)` of R271, on the channel after the counter update and the shadow load. -/
def Channel.events (c : Channel) : Events :=
  { zero := c.ctr == 0
    prd := c.ctr == c.prd
    cau := c.ctr == c.cmpa && c.dir == .up
    cad := c.ctr == c.cmpa && c.dir == .down
    dir := c.dir }

/-- The events in order of priority, highest first, each with whether it holds (R272). -/
def Events.order (ev : Events) : List (Event × Bool) :=
  match ev.dir with
  | .up => [(.prd, ev.prd), (.cau, ev.cau), (.zro, ev.zero)]
  | .down => [(.zro, ev.zero), (.cad, ev.cad), (.prd, ev.prd)]

/-- The action of the first event that holds and whose action for the pin is not NoChange (R272). -/
def pickAction (aq : BitVec 16) (pin : Pin) : List (Event × Bool) → Action
  | [] => .noChange
  | (e, holds) :: rest =>
    if holds && aqField aq pin e != .noChange then aqField aq pin e else pickAction aq pin rest

/-- `apply(act, q)` of R274. -/
def Action.apply (act : Action) (q : Bool) : Bool :=
  match act with
  | .noChange => q
  | .forceLow => false
  | .forceHigh => true
  | .toggle => !q

/-- `qualify(k, ev)` of R273: the next QA and QB. -/
def Channel.qualify (c : Channel) (ev : Events) : Bool × Bool :=
  ((pickAction c.aq .a ev.order).apply c.qa, (pickAction c.aq .b ev.order).apply c.qb)

end Sys2Proof.Machine
end

