-- ==== Sys2Proof/Machine/Counter.lean ====
section
/-! DEFINITION. The timebase counter (spec/41_timebase.md R193 to R197) and the two operations of a
channel's sub-step, TB_TICK (R194) and HALF_TICK (R195). -/

namespace Sys2Proof.Machine

/-- DIV = CLKDIV + 1, the timebase clock divider, 1 to 256 (R45, R193). -/
def Channel.div (c : Channel) : Nat := c.clkdiv.toNat + 1

/-- `start(MODE, P)` of R196: the counter and its direction at the first TB tick after a start. -/
def startValue (mode : Mode) (p : Tick) : Tick × Dir :=
  match mode with
  | .up => (0, .up)
  | .down => (p, .down)
  | .upDown => (0, .up)

/-- `next(MODE, P, x, d)` of R197. The sums are on 16 bits; no reachable state wraps (R167, log
entry 9). -/
def nextValue (mode : Mode) (p x : Tick) (d : Dir) : Tick × Dir :=
  match mode with
  | .up => (if p.toNat ≤ x.toNat then 0 else x + 1, .up)
  | .down => (if x = 0 then p else x - 1, .down)
  | .upDown =>
    if p = 0 then (0, .up)
    else match d with
      | .up => (x + 1, if x + 1 = p then .down else .up)
      | .down => (x - 1, if x - 1 = 0 then .up else .down)

/-- The counter update of a TB tick, with the load of CMPA at the first tick after a start (R194,
R232 point 1). -/
def Channel.count (c : Channel) : Channel :=
  if c.fresh then
    { c with
      cmpa := c.cmps
      ctr := (startValue c.mode c.prd).1
      dir := (startValue c.mode c.prd).2
      fresh := false }
  else
    { c with
      ctr := (nextValue c.mode c.prd c.ctr c.dir).1
      dir := (nextValue c.mode c.prd c.ctr c.dir).2 }

/-- The shadow load on Zero (R194, R232 point 2). -/
def Channel.loadOnZero (c : Channel) : Channel :=
  if c.ctr = 0 then { c with cmpa := c.cmps } else c

/-- The qualifier's part of a TB tick and the dead-time step after it (R194, R273, R313). -/
def Channel.drive (c : Channel) : Channel :=
  let q := c.qualify c.events
  Channel.dtStep { c with qa := q.1, qb := q.2 } (q.1 != c.qa)

/-- `tb_tick(k)` of R194 on the channel. -/
def Channel.tbTick (c : Channel) : Channel := c.count.loadOnZero.drive

/-- `half_tick(k)` of R195 on the channel: a dead-time step in which QA did not change. -/
def Channel.halfTick (c : Channel) : Channel := c.dtStep false

/-- The prescaler's count at the end of a sub-step: EC <- (EC + 1) mod (2·DIV) (R193). -/
def Channel.advanceEc (c : Channel) : Channel :=
  { c with ec := BitVec.ofNat 9 ((c.ec.toNat + 1) % (2 * c.div)) }

/-- Which internal operation a sub-step of channel `k` selects (R112, R193): TB_TICK at EC = 0,
HALF_TICK at EC = DIV with HALF = 1, none otherwise and while the channel is stopped. -/
def Channel.selects (c : Channel) (k : Ch) : Option Instr :=
  if c.run then
    if c.ec = 0 then some (.tbTick k)
    else if c.ec.toNat = c.div && c.half then some (.halfTick k)
    else none
  else none

end Sys2Proof.Machine
end

