-- ==== Sys2Proof/Machine/Phase.lean ====
section
/-! DEFINITION. The phase accumulator and the sample sequencer (spec/45_sinusoid_phase.md R352, R353, R356,
R358, R361). -/

namespace Sys2Proof.Machine

/-- `start_idx(p, N)` of R352. -/
def startIdx (p : Ch) (n : Nat) : Nat :=
  match p with
  | .c0 => 0
  | .c1 => (n + 1) / 3
  | .c2 => (2 * n + 1) / 3

/-- The state after an accepted LUTN write: the size, and the three indices at their start (R353). -/
def State.setLutn (n : BitVec 11) (s : State) : State :=
  { s with lutn := n, idx := PerCh.ofFn fun p => BitVec.ofNat 10 (startIdx p n.toNat) }

/-- The state after an accepted PHIDXp write (R356). -/
def State.setIdx (p : Ch) (i : LutIndex) (s : State) : State := { s with idx := s.idx.set p i }

/-- The index after one advance: (IDX + 1) mod N (R358). -/
def nextIdx (i : LutIndex) (n : BitVec 11) : LutIndex := BitVec.ofNat 10 ((i.toNat + 1) % n.toNat)

/-- PhaseGenerator.advance() of phase `p` (R358). -/
def State.advance (s : State) (p : Ch) : State := s.setIdx p (nextIdx (s.idx.get p) s.lutn)

/-- COLL[p] set when the bus wrote CHp.CMP or CHp.DUTY in this cycle (R358, R361). -/
def State.collide (s : State) (p : Ch) : State := if s.wrote = some p then s.setColl p else s

/-- The body of `sample_step` for one phase: advance, read the table, flag a collision, write the duty
(R358). -/
def State.samplePhase (s : State) (p : Ch) : State :=
  let s1 := s.advance p
  let r := lutRead (s1.idx.get p) s1
  (r.2.collide p).dutyWrite p r.1

/-- `sample_step()` of R358: phases A, B, C in turn. -/
def State.sampleStep (s : State) : State := ((s.samplePhase .c0).samplePhase .c1).samplePhase .c2

end Sys2Proof.Machine
end

