-- ==== Sys2Proof/Machine/Internal.lean ====
section
/-! DEFINITION. The four internal operations: RESET (spec/70_reset_and_hazards.md R430), SAMPLE
(spec/45_sinusoid_phase.md R358), TB_TICK and HALF_TICK (spec/41_timebase.md R194, R195). Each is the
operation's body; Machine/Cycle.lean selects it (R112; log entry 8, DEDUCED). -/

namespace Sys2Proof.Machine

/-- The state after a reset: everything the spec gives the machine as after reset (R430); the coming
inputs and the count of draws are the model's own and stay (log entries 1, 3). -/
def State.doReset (s : State) : State := { State.reset with inputs := s.inputs, draws := s.draws }

/-- RESET (R430). -/
def execReset (s : State) : Result := .next s.doReset

/-- SAMPLE (R358). -/
def execSample (s : State) : Result := .next s.sampleStep

/-- TB_TICK (R194). -/
def execTbTick (k : Ch) (s : State) : Result := .next (s.modChan k Channel.tbTick)

/-- HALF_TICK (R195). -/
def execHalfTick (k : Ch) (s : State) : Result := .next (s.modChan k Channel.halfTick)

end Sys2Proof.Machine
end

