-- ==== Sys2Proof/Machine/Qualifier.lean ====
section
/-! DEFINITION. The action-table register AQCTL of each channel (spec/43_output_qualifier.md R276, R277). -/

namespace Sys2Proof.Machine

/-- The value of AQCTL (R52, R277). -/
def aqctlValue (k : Ch) (s : State) : Word := zext (s.chan k).aq

/-- The state after an accepted AQCTL write: QA and QB are not changed (R276). -/
def State.setAq (k : Ch) (aq : BitVec 16) (s : State) : State :=
  s.modChan k fun c => { c with aq := aq }

/-- WR CHk.AQCTL (R276). -/
def writeAqctl (k : Ch) (w : Word) (s : State) : Result :=
  acceptChannel k (halfOperand w) (State.setAq k) s

/-- RD CH0.AQCTL (R277). -/
def execRdCh0Aqctl (s : State) : Result := readReg (aqctlValue .c0) s

/-- WR CH0.AQCTL (R276). -/
def execWrCh0Aqctl (w : Word) (s : State) : Result := writeAqctl .c0 w s

/-- RD CH1.AQCTL (R277). -/
def execRdCh1Aqctl (s : State) : Result := readReg (aqctlValue .c1) s

/-- WR CH1.AQCTL (R276). -/
def execWrCh1Aqctl (w : Word) (s : State) : Result := writeAqctl .c1 w s

/-- RD CH2.AQCTL (R277). -/
def execRdCh2Aqctl (s : State) : Result := readReg (aqctlValue .c2) s

/-- WR CH2.AQCTL (R276). -/
def execWrCh2Aqctl (w : Word) (s : State) : Result := writeAqctl .c2 w s

end Sys2Proof.Machine
end

