-- ==== Sys2Proof/Machine/Table.lean ====
section
/-! DEFINITION. The table-size register LUTN, the phase indices PHIDX0..2 and the lookup-table window
(spec/45_sinusoid_phase.md R353 to R357, spec/20_memory.md R93). -/

namespace Sys2Proof.Machine

/-- The value of LUTN (R43, R354). -/
def lutnValue (s : State) : Word := zext s.lutn

/-- The value of PHIDXp (R44, R357). -/
def phidxValue (p : Ch) (s : State) : Word := zext (s.idx.get p)

/-- WR LUTN (R353). -/
def writeLutn (w : Word) (s : State) : Result := acceptTable (lutnOperand w) State.setLutn s

/-- WR PHIDXp (R356). -/
def writePhidx (p : Ch) (w : Word) (s : State) : Result :=
  acceptTable (phidxOperand s.lutn w) (State.setIdx p) s

/-- A read of entry `i` of the table window: the entry, or a free draw (R89, R93). -/
def readLut (i : LutIndex) (s : State) : Result := okay (lutRead i s).1 (lutRead i s).2

/-- A write of entry `i` of the table window: every pattern is legal, refused while PGEN = 1 (R93). -/
def writeLut (i : LutIndex) (w : Word) (s : State) : Result :=
  acceptTable (some w) (fun v t => t.lutWrite i v) s

/-- RD LUTN (R354). -/
def execRdLutn (s : State) : Result := readReg lutnValue s

/-- WR LUTN (R353). -/
def execWrLutn (w : Word) (s : State) : Result := writeLutn w s

/-- RD PHIDX0 (R357). -/
def execRdPhidx0 (s : State) : Result := readReg (phidxValue .c0) s

/-- WR PHIDX0 (R356). -/
def execWrPhidx0 (w : Word) (s : State) : Result := writePhidx .c0 w s

/-- RD PHIDX1 (R357). -/
def execRdPhidx1 (s : State) : Result := readReg (phidxValue .c1) s

/-- WR PHIDX1 (R356). -/
def execWrPhidx1 (w : Word) (s : State) : Result := writePhidx .c1 w s

/-- RD PHIDX2 (R357). -/
def execRdPhidx2 (s : State) : Result := readReg (phidxValue .c2) s

/-- WR PHIDX2 (R356). -/
def execWrPhidx2 (w : Word) (s : State) : Result := writePhidx .c2 w s

/-- RD LUT (R93). -/
def execRdLut (i : LutIndex) (s : State) : Result := readLut i s

/-- WR LUT (R93). -/
def execWrLut (i : LutIndex) (w : Word) (s : State) : Result := writeLut i w s

end Sys2Proof.Machine
end

