-- ==== Sys2Proof/Machine/Timebase.lean ====
section
/-! DEFINITION. The timebase registers TBCTL, TBPRD and TBCTR of each channel (spec/41_timebase.md R190 to
R192, R201, R202). -/

namespace Sys2Proof.Machine

/-- The value of TBCTL: CLKDIV at [15:8], MODE at [1:0] (R45, R202). -/
def tbctlValue (k : Ch) (s : State) : Word :=
  zext (s.chan k).clkdiv <<< 8 ||| zext (s.chan k).mode.bits

/-- The value of TBPRD (R46, R202). -/
def tbprdValue (k : Ch) (s : State) : Word := zext (s.chan k).prd

/-- The value of TBCTR: DIR at [16], CTR at [15:0] (R47, R201). -/
def tbctrValue (k : Ch) (s : State) : Word :=
  zext (s.chan k).dir.bit <<< 16 ||| zext (s.chan k).ctr

/-- The state after an accepted TBCTL write (R190): MODE and CLKDIV, nothing else. -/
def State.setTbctl (k : Ch) (x : Mode × BitVec 8) (s : State) : State :=
  s.modChan k fun c => { c with mode := x.1, clkdiv := x.2 }

/-- The state after an accepted TBPRD write: PRD, then both compare registers within it (R191, R192). -/
def State.setTbprd (k : Ch) (p : Tick) (s : State) : State :=
  (s.modChan k fun c => { c with prd := p }).clampCompareToPeriod k

/-- WR CHk.TBCTL (R190). -/
def writeTbctl (k : Ch) (w : Word) (s : State) : Result :=
  acceptChannel k (tbctlOperand w) (State.setTbctl k) s

/-- WR CHk.TBPRD (R191). -/
def writeTbprd (k : Ch) (w : Word) (s : State) : Result :=
  acceptChannel k (halfOperand w) (State.setTbprd k) s

/-- RD CH0.TBCTL (R202). -/
def execRdCh0Tbctl (s : State) : Result := readReg (tbctlValue .c0) s

/-- WR CH0.TBCTL (R190). -/
def execWrCh0Tbctl (w : Word) (s : State) : Result := writeTbctl .c0 w s

/-- RD CH0.TBPRD (R202). -/
def execRdCh0Tbprd (s : State) : Result := readReg (tbprdValue .c0) s

/-- WR CH0.TBPRD (R191). -/
def execWrCh0Tbprd (w : Word) (s : State) : Result := writeTbprd .c0 w s

/-- RD CH0.TBCTR (R201). -/
def execRdCh0Tbctr (s : State) : Result := readReg (tbctrValue .c0) s

/-- RD CH1.TBCTL (R202). -/
def execRdCh1Tbctl (s : State) : Result := readReg (tbctlValue .c1) s

/-- WR CH1.TBCTL (R190). -/
def execWrCh1Tbctl (w : Word) (s : State) : Result := writeTbctl .c1 w s

/-- RD CH1.TBPRD (R202). -/
def execRdCh1Tbprd (s : State) : Result := readReg (tbprdValue .c1) s

/-- WR CH1.TBPRD (R191). -/
def execWrCh1Tbprd (w : Word) (s : State) : Result := writeTbprd .c1 w s

/-- RD CH1.TBCTR (R201). -/
def execRdCh1Tbctr (s : State) : Result := readReg (tbctrValue .c1) s

/-- RD CH2.TBCTL (R202). -/
def execRdCh2Tbctl (s : State) : Result := readReg (tbctlValue .c2) s

/-- WR CH2.TBCTL (R190). -/
def execWrCh2Tbctl (w : Word) (s : State) : Result := writeTbctl .c2 w s

/-- RD CH2.TBPRD (R202). -/
def execRdCh2Tbprd (s : State) : Result := readReg (tbprdValue .c2) s

/-- WR CH2.TBPRD (R191). -/
def execWrCh2Tbprd (w : Word) (s : State) : Result := writeTbprd .c2 w s

/-- RD CH2.TBCTR (R201). -/
def execRdCh2Tbctr (s : State) : Result := readReg (tbctrValue .c2) s

end Sys2Proof.Machine
end

