-- ==== Sys2Proof/Machine/Dispatch.lean ====
section
/-! DEFINITION. The dispatch: one arm per constructor of Instr, each one direct call of its meaning. -/

namespace Sys2Proof.Machine

/-- The meaning of an operation of the block. -/
def exec (i : Instr) (s : State) : Host.Outcome State Fault Refusal :=
  match i with
  | .rdId => Sys2Proof.Machine.execRdId s
  | .rdGctl => Sys2Proof.Machine.execRdGctl s
  | .wrGctl w => Sys2Proof.Machine.execWrGctl w s
  | .rdErr => Sys2Proof.Machine.execRdErr s
  | .wrErr w => Sys2Proof.Machine.execWrErr w s
  | .rdLutn => Sys2Proof.Machine.execRdLutn s
  | .wrLutn w => Sys2Proof.Machine.execWrLutn w s
  | .rdPhidx0 => Sys2Proof.Machine.execRdPhidx0 s
  | .wrPhidx0 w => Sys2Proof.Machine.execWrPhidx0 w s
  | .rdPhidx1 => Sys2Proof.Machine.execRdPhidx1 s
  | .wrPhidx1 w => Sys2Proof.Machine.execWrPhidx1 w s
  | .rdPhidx2 => Sys2Proof.Machine.execRdPhidx2 s
  | .wrPhidx2 w => Sys2Proof.Machine.execWrPhidx2 w s
  | .rdCh0Tbctl => Sys2Proof.Machine.execRdCh0Tbctl s
  | .wrCh0Tbctl w => Sys2Proof.Machine.execWrCh0Tbctl w s
  | .rdCh0Tbprd => Sys2Proof.Machine.execRdCh0Tbprd s
  | .wrCh0Tbprd w => Sys2Proof.Machine.execWrCh0Tbprd w s
  | .rdCh0Tbctr => Sys2Proof.Machine.execRdCh0Tbctr s
  | .rdCh0Cmpctl => Sys2Proof.Machine.execRdCh0Cmpctl s
  | .wrCh0Cmpctl w => Sys2Proof.Machine.execWrCh0Cmpctl w s
  | .rdCh0Cmp => Sys2Proof.Machine.execRdCh0Cmp s
  | .wrCh0Cmp w => Sys2Proof.Machine.execWrCh0Cmp w s
  | .rdCh0Cmpshd => Sys2Proof.Machine.execRdCh0Cmpshd s
  | .rdCh0Duty => Sys2Proof.Machine.execRdCh0Duty s
  | .wrCh0Duty w => Sys2Proof.Machine.execWrCh0Duty w s
  | .rdCh0Aqctl => Sys2Proof.Machine.execRdCh0Aqctl s
  | .wrCh0Aqctl w => Sys2Proof.Machine.execWrCh0Aqctl w s
  | .rdCh0Dbctl => Sys2Proof.Machine.execRdCh0Dbctl s
  | .wrCh0Dbctl w => Sys2Proof.Machine.execWrCh0Dbctl w s
  | .rdCh0Dbred => Sys2Proof.Machine.execRdCh0Dbred s
  | .wrCh0Dbred w => Sys2Proof.Machine.execWrCh0Dbred w s
  | .rdCh0Dbfed => Sys2Proof.Machine.execRdCh0Dbfed s
  | .wrCh0Dbfed w => Sys2Proof.Machine.execWrCh0Dbfed w s
  | .rdCh0Outst => Sys2Proof.Machine.execRdCh0Outst s
  | .rdCh1Tbctl => Sys2Proof.Machine.execRdCh1Tbctl s
  | .wrCh1Tbctl w => Sys2Proof.Machine.execWrCh1Tbctl w s
  | .rdCh1Tbprd => Sys2Proof.Machine.execRdCh1Tbprd s
  | .wrCh1Tbprd w => Sys2Proof.Machine.execWrCh1Tbprd w s
  | .rdCh1Tbctr => Sys2Proof.Machine.execRdCh1Tbctr s
  | .rdCh1Cmpctl => Sys2Proof.Machine.execRdCh1Cmpctl s
  | .wrCh1Cmpctl w => Sys2Proof.Machine.execWrCh1Cmpctl w s
  | .rdCh1Cmp => Sys2Proof.Machine.execRdCh1Cmp s
  | .wrCh1Cmp w => Sys2Proof.Machine.execWrCh1Cmp w s
  | .rdCh1Cmpshd => Sys2Proof.Machine.execRdCh1Cmpshd s
  | .rdCh1Duty => Sys2Proof.Machine.execRdCh1Duty s
  | .wrCh1Duty w => Sys2Proof.Machine.execWrCh1Duty w s
  | .rdCh1Aqctl => Sys2Proof.Machine.execRdCh1Aqctl s
  | .wrCh1Aqctl w => Sys2Proof.Machine.execWrCh1Aqctl w s
  | .rdCh1Dbctl => Sys2Proof.Machine.execRdCh1Dbctl s
  | .wrCh1Dbctl w => Sys2Proof.Machine.execWrCh1Dbctl w s
  | .rdCh1Dbred => Sys2Proof.Machine.execRdCh1Dbred s
  | .wrCh1Dbred w => Sys2Proof.Machine.execWrCh1Dbred w s
  | .rdCh1Dbfed => Sys2Proof.Machine.execRdCh1Dbfed s
  | .wrCh1Dbfed w => Sys2Proof.Machine.execWrCh1Dbfed w s
  | .rdCh1Outst => Sys2Proof.Machine.execRdCh1Outst s
  | .rdCh2Tbctl => Sys2Proof.Machine.execRdCh2Tbctl s
  | .wrCh2Tbctl w => Sys2Proof.Machine.execWrCh2Tbctl w s
  | .rdCh2Tbprd => Sys2Proof.Machine.execRdCh2Tbprd s
  | .wrCh2Tbprd w => Sys2Proof.Machine.execWrCh2Tbprd w s
  | .rdCh2Tbctr => Sys2Proof.Machine.execRdCh2Tbctr s
  | .rdCh2Cmpctl => Sys2Proof.Machine.execRdCh2Cmpctl s
  | .wrCh2Cmpctl w => Sys2Proof.Machine.execWrCh2Cmpctl w s
  | .rdCh2Cmp => Sys2Proof.Machine.execRdCh2Cmp s
  | .wrCh2Cmp w => Sys2Proof.Machine.execWrCh2Cmp w s
  | .rdCh2Cmpshd => Sys2Proof.Machine.execRdCh2Cmpshd s
  | .rdCh2Duty => Sys2Proof.Machine.execRdCh2Duty s
  | .wrCh2Duty w => Sys2Proof.Machine.execWrCh2Duty w s
  | .rdCh2Aqctl => Sys2Proof.Machine.execRdCh2Aqctl s
  | .wrCh2Aqctl w => Sys2Proof.Machine.execWrCh2Aqctl w s
  | .rdCh2Dbctl => Sys2Proof.Machine.execRdCh2Dbctl s
  | .wrCh2Dbctl w => Sys2Proof.Machine.execWrCh2Dbctl w s
  | .rdCh2Dbred => Sys2Proof.Machine.execRdCh2Dbred s
  | .wrCh2Dbred w => Sys2Proof.Machine.execWrCh2Dbred w s
  | .rdCh2Dbfed => Sys2Proof.Machine.execRdCh2Dbfed s
  | .wrCh2Dbfed w => Sys2Proof.Machine.execWrCh2Dbfed w s
  | .rdCh2Outst => Sys2Proof.Machine.execRdCh2Outst s
  | .rdLut e => Sys2Proof.Machine.execRdLut e s
  | .wrLut e w => Sys2Proof.Machine.execWrLut e w s
  | .slverrSize0 d a => Sys2Proof.Machine.execSlverrSize0 d a s
  | .slverrSize1 d a => Sys2Proof.Machine.execSlverrSize1 d a s
  | .slverrSize3 d a => Sys2Proof.Machine.execSlverrSize3 d a s
  | .slverrAlign0 d a => Sys2Proof.Machine.execSlverrAlign0 d a s
  | .slverrAlign1 d a => Sys2Proof.Machine.execSlverrAlign1 d a s
  | .slverrUnmappedGlobalPage d a => Sys2Proof.Machine.execSlverrUnmappedGlobalPage d a s
  | .slverrUnmappedChannelOffset d a => Sys2Proof.Machine.execSlverrUnmappedChannelOffset d a s
  | .slverrUnmappedChannel3 d a => Sys2Proof.Machine.execSlverrUnmappedChannel3 d a s
  | .slverrUnmappedPages2to15 d a => Sys2Proof.Machine.execSlverrUnmappedPages2to15 d a s
  | .slverrRoWrId w => Sys2Proof.Machine.execSlverrRoWrId w s
  | .slverrRoWrCh0Tbctr w => Sys2Proof.Machine.execSlverrRoWrCh0Tbctr w s
  | .slverrRoWrCh0Cmpshd w => Sys2Proof.Machine.execSlverrRoWrCh0Cmpshd w s
  | .slverrRoWrCh0Outst w => Sys2Proof.Machine.execSlverrRoWrCh0Outst w s
  | .slverrRoWrCh1Tbctr w => Sys2Proof.Machine.execSlverrRoWrCh1Tbctr w s
  | .slverrRoWrCh1Cmpshd w => Sys2Proof.Machine.execSlverrRoWrCh1Cmpshd w s
  | .slverrRoWrCh1Outst w => Sys2Proof.Machine.execSlverrRoWrCh1Outst w s
  | .slverrRoWrCh2Tbctr w => Sys2Proof.Machine.execSlverrRoWrCh2Tbctr w s
  | .slverrRoWrCh2Cmpshd w => Sys2Proof.Machine.execSlverrRoWrCh2Cmpshd w s
  | .slverrRoWrCh2Outst w => Sys2Proof.Machine.execSlverrRoWrCh2Outst w s
  | .reset => Sys2Proof.Machine.execReset s
  | .sample => Sys2Proof.Machine.execSample s
  | .tbTick k => Sys2Proof.Machine.execTbTick k s
  | .halfTick k => Sys2Proof.Machine.execHalfTick k s

end Sys2Proof.Machine
end

