-- ==== Sys2Proof/Machine/Cycle.lean ====
section
/-! DEFINITION. One SYSCLK cycle (spec/40_cycle_global.md R150): reset, or else the bus transaction, the sample
step, the rising and the falling sub-steps, with the pins observed after each sub-step (R152). Every
operation of the cycle, the internal ones too, is run through `exec`. -/

namespace Sys2Proof.Machine

/-- The header of the presented transaction (R110). -/
def CycleInput.header (x : CycleInput) : Header := packHeader x.busWe x.busSize x.busAddr

/-- The transaction of a cycle, if one is presented (R150, R154). -/
def CycleInput.transaction (x : CycleInput) : Option Instr :=
  if x.busReq then some (decode x.header x.busWdata) else none

/-- A cycle in which nothing is presented: the line `IDLE` (R119). -/
def CycleInput.idle : CycleInput :=
  { rst := false, busReq := false, busWe := false, busSize := 2, busAddr := 0, busWdata := 0,
    sampleTick := false }

/-- A cycle that presents one transaction and nothing else: header and data word (R110, R119). -/
def CycleInput.ofHeader (h : Header) (wdata : Word) : CycleInput :=
  { rst := false, busReq := true, busWe := headerW h, busSize := headerSize h,
    busAddr := headerAddr h, busWdata := wdata, sampleTick := false }

/-- The input ports of this cycle; IDLE when no further input is given (log entry 1). -/
def State.input (s : State) : CycleInput := s.inputs.headD CycleInput.idle

/-- The state as the cycle begins: this cycle's input taken, no response given and no CMP or DUTY write
made yet (log entry 16, DESIGN CHOICE). -/
def State.beginCycle (s : State) : State :=
  { s with inputs := s.inputs.tail, bus := .noTransaction, wrote := none }

/-- Continues with `f` after a next state; a stop stays as it is. -/
def andThen (r : Result) (f : State → Result) : Result :=
  match r with
  | .next s => f s
  | .fault e => .fault e
  | .refused e => .refused e

/-- Runs an operation if one is selected. -/
def runOp (o : Option Instr) (s : State) : Result :=
  match o with
  | none => .next s
  | some i => exec i s

/-- The sample step of a cycle: SAMPLE when SAMPLE_TICK = 1 and PGEN = 1, as PGEN is after the bus phase
(R112, R150). -/
def samplePart (tick : Bool) (s : State) : Result :=
  runOp (if tick && s.pgen then some .sample else none) s

/-- A sub-step of channel `k` (R193): nothing while it is stopped, else the selected operation and the
prescaler's count. -/
def substep (k : Ch) (s : State) : Result :=
  if (s.chan k).run then
    andThen (runOp ((s.chan k).selects k) s) fun t => .next (t.modChan k Channel.advanceEc)
  else .next s

/-- A sub-step of the three channels (R150). -/
def substeps (s : State) : Result :=
  andThen (andThen (substep .c0 s) (substep .c1)) (substep .c2)

/-- The rising sub-step and its pin sample (R150, R152). -/
def risePart (s : State) : Result :=
  andThen (substeps s) fun t => .next { t with pinsRise := t.pins }

/-- The falling sub-step and its pin sample (R150, R152). -/
def fallPart (s : State) : Result :=
  andThen (substeps s) fun t => .next { t with pinsFall := t.pins }

/-- What a cycle does after its bus transaction (R150). -/
def afterBus (tick : Bool) (s : State) : Result :=
  andThen (andThen (samplePart tick s) risePart) fallPart

/-- `cycle` of R150 on the inputs of this cycle. -/
def cycle (s : State) : Result :=
  if s.input.rst then exec .reset s.beginCycle
  else andThen (runOp s.input.transaction s.beginCycle) (afterBus s.input.sampleTick)

/-- The state in which the coming cycle presents the transaction of the given bits, header in bits
15..0 and data word in bits 47..16, in place of what it would present (log entry 1). -/
def State.presentWord (s : State) (nbits w : Nat) : State :=
  let b := tableBits nbits w
  { s with
    inputs := CycleInput.ofHeader (BitVec.ofNat 16 b) (BitVec.ofNat 32 (b / 65536)) ::
      s.inputs.tail }

end Sys2Proof.Machine
end

