-- ==== Sys2Proof/Machine/Step.lean ====
section
/-! DEFINITION. The machine's step is one SYSCLK cycle (spec/40_cycle_global.md R150); `withFetchWord` presents
a transaction to the next one. -/

namespace Sys2Proof.Machine

/-- One step: one SYSCLK cycle. -/
def step (s : State) : Host.Outcome State Fault Refusal := cycle s

/-- `s` with the transaction of a table word presented in its next cycle. -/
def State.withFetchWord (s : State) (nbits w : Nat) : State := s.presentWord nbits w

end Sys2Proof.Machine
end

