-- ==== Sys2Proof/Machine/HostProcedures.lean ====
section
/-! DEFINITION. The host's computations (spec/00_scope.md R5): software that the block does not execute and the
machine does not depend on. Frequencies and times are exact rationals (log entry 14). -/

namespace Sys2Proof.Machine

/-- The document's ConfigurationError, by the check that raises it (R204, R249, R364). -/
inductive ConfigurationError where
  /-- R249: the channel id is not 0, 1 or 2. -/
  | instanceId
  /-- R249: DIV is not 1 to 256. -/
  | divider
  /-- R204, R364: a frequency is not positive. -/
  | frequency
  /-- R204: the period does not fit 16 bits. -/
  | period
  /-- R249: the dead time is negative or does not fit 16 bits. -/
  | deadTime
  /-- R364: the table size is not 2 to 1024. -/
  | tableSize
  /-- R249, R280: the block flagged a rejected write. -/
  | rejectedWrite
deriving DecidableEq, Repr

/-- `timebaseFrequencyHz = sourceClockHz / DIV` (R203). -/
def timebaseFrequency (sourceClockHz : Rat) (div : Nat) : Rat := sourceClockHz / div

/-- The period before the range check (R204). -/
def periodValue (fTb fTarget : Rat) (mode : Mode) : Int :=
  match mode with
  | .up => (fTb / fTarget).floor - 1
  | .down => (fTb / fTarget).floor - 1
  | .upDown => (fTb / (2 * fTarget)).floor

/-- `period_ticks(f_tb, f_target, mode)` of R204. -/
def periodTicks (fTb fTarget : Rat) (mode : Mode) : Except ConfigurationError Tick :=
  if fTarget ≤ 0 then .error .frequency
  else
    let p := periodValue fTb fTarget mode
    if p < 0 ∨ 65535 < p then .error .period else .ok (BitVec.ofInt 16 p)

/-- The clocking resolutions of the dead-time engine (R18, R313). -/
inductive Resolution where
  | fullCycle
  | halfCycle
deriving DecidableEq, Repr

/-- `dt_ticks(delay_seconds, f_tb, resolution)` of R320, rounded half up. -/
def dtTicks (delaySeconds fTb : Rat) (res : Resolution) : Int :=
  match res with
  | .fullCycle => (delaySeconds * fTb + 1 / 2).floor
  | .halfCycle => (delaySeconds * fTb * 2 + 1 / 2).floor

/-- `default_profile(mode)` of R278. -/
def defaultProfile (mode : Mode) : BitVec 16 :=
  match mode with
  | .up => 0x0012#16
  | .down => 0x0081#16
  | .upDown => 0x0092#16

/-- A duty ratio as the host's software holds it: a number or NaN (R248). -/
inductive Ratio where
  | nan
  | real (d : Rat)
deriving DecidableEq, Repr

/-- `q(D)` of R248. -/
def dutyCode (d : Ratio) : Word :=
  match d with
  | .nan => 0x80000000#32
  | .real d =>
    if 32768 ≤ d then 0x7FFFFFFF#32
    else if d < -32768 then 0x80000000#32
    else BitVec.ofInt 32 (d * 65536 + 1 / 2).floor

/-- The table size of `SinusoidTable.build` (R364): the quotient rounded down, 2 to 1024. -/
def tableSize (sampleRateHz fundamentalHz : Rat) : Except ConfigurationError Nat :=
  if fundamentalHz ≤ 0 ∨ sampleRateHz ≤ 0 then .error .frequency
  else
    let n := (sampleRateHz / fundamentalHz).floor
    if n < 2 ∨ 1024 < n then .error .tableSize else .ok n.toNat

/-- `c` is the code of entry `i` of a table of `n` entries: floor of
65536 × (0.5 + 0.5 sin(2π·i/N)) + 1/2 (R364), said over the real sine (log entry 14). -/
def IsTableCode (n i : Nat) (c : Int) : Prop :=
  c = ⌊(65536 : ℝ) * (1 / 2 + 1 / 2 * Real.sin (2 * Real.pi * i / n)) + 1 / 2⌋

/-- A list of codes is the table of `n` entries (R364). -/
def IsTable (n : Nat) (codes : List Word) : Prop :=
  codes.length = n ∧ ∀ i (h : i < codes.length), IsTableCode n i codes[i].toInt

/-- The table of `n` entries: the codes of R364, which Laws/HostTable.lean shows to exist and to be the
only ones. A program that loads a table can load no other codes. -/
structure SineTable (n : Nat) where
  codes : List Word
  isTable : IsTable n codes

/-- AQCTL's value with the action of one pin and event replaced: `configureAction` (R280). -/
def withAction (aq : BitVec 16) (pin : Pin) (e : Event) (act : Action) : BitVec 16 :=
  let at_ := pin.offset + e.offset
  (aq &&& ~~~(3#16 <<< at_)) ||| (act.bits.setWidth 16 <<< at_)

end Sys2Proof.Machine
end

