-- ==== Sys2Proof/Machine/Assembler.lean ====
section
/-! DEFINITION. The program notation of spec/30_encoding.md R119 and R120: lines, one per cycle, as values of
the input ports, and the pseudo-instructions and host procedures as lists of lines. Host software: the
machine does not depend on it. -/

namespace Sys2Proof.Machine

/-- `<reg>` of R119. -/
inductive RegName where
  | id
  | gctl
  | err
  | lutn
  | phidx (p : Ch)
  | ch (k : Ch) (r : ChReg)
  | lut (i : LutIndex)
deriving DecidableEq, Repr

/-- The address of a register (R81). -/
def RegName.addr : RegName → Addr
  | .id => 0x000
  | .gctl => 0x004
  | .err => 0x008
  | .lutn => 0x00C
  | .phidx p => BitVec.ofNat 13 (0x010 + 4 * p.toNat)
  | .ch k r => chAddr k r
  | .lut i => lutAddr i

/-- A line of a program; `tick` is the ending `; TICK` (R119). -/
inductive Line where
  | wr (r : RegName) (v : Word) (tick : Bool)
  | rd (r : RegName) (tick : Bool)
  | bus (h : Header) (v : Word) (tick : Bool)
  | idle (tick : Bool)
  | rst
deriving DecidableEq, Repr

/-- The input ports of a line's cycle (R119). -/
def Line.input : Line → CycleInput
  | .wr r v tick => { CycleInput.ofHeader (writeHeader r.addr) v with sampleTick := tick }
  | .rd r tick => { CycleInput.ofHeader (readHeader r.addr) 0 with sampleTick := tick }
  | .bus h v tick => { CycleInput.ofHeader h v with sampleTick := tick }
  | .idle tick => { CycleInput.idle with sampleTick := tick }
  | .rst => { CycleInput.idle with rst := true }

/-- A write line without a tick. -/
def Line.write (r : RegName) (v : Word) : Line := .wr r v false

/-- The assembler's copy `g` of the last GCTL value it wrote: 0 after RST (R120; log entry 15). -/
def Line.trackGctl (g : Word) : Line → Word
  | .wr .gctl v _ => v
  | .rst => 0
  | _ => g

/-- The copy `g` after a list of lines. -/
def trackLines (g : Word) (ls : List Line) : Word := ls.foldl Line.trackGctl g

/-- The operands of CONFIG (R120). -/
structure ConfigOperands where
  mode : Word
  clkdiv : Word
  prd : Word
  aq : Word
  immed : Word
  dben : Word
  half : Word
  red : Word
  fed : Word
deriving DecidableEq, Repr

/-- CONFIG CHk: seven lines in this order (R120). -/
def configLines (k : Ch) (o : ConfigOperands) : List Line :=
  [.write (.ch k .tbctl) (o.mode + (o.clkdiv <<< 8)),
   .write (.ch k .tbprd) o.prd,
   .write (.ch k .cmpctl) o.immed,
   .write (.ch k .aqctl) o.aq,
   .write (.ch k .dbred) o.red,
   .write (.ch k .dbfed) o.fed,
   .write (.ch k .dbctl) (o.dben + (o.half <<< 3))]

/-- The LUT writes of LOADLUT from entry `i` on (R120, R364). -/
def lutLines : Nat → List Word → List Line
  | _, [] => []
  | i, c :: cs => .write (.lut (BitVec.ofNat 10 i)) c :: lutLines (i + 1) cs

/-- The lines of a program and its pseudo-instructions (R119, R120). CONSTRUCT is `construct`. -/
inductive Pseudo where
  | line (l : Line)
  | idleN (n : Nat)
  | start (m : Word)
  | stop (m : Word)
  | outOn (m : Word)
  | outOff (m : Word)
  | pgOn
  | pgOff
  | setCmp (k : Ch) (c : Word)
  | setDuty (k : Ch) (d : Ratio)
  | clrErr
  | config (k : Ch) (o : ConfigOperands)
  | loadLut (n : Nat) (table : SineTable n)

/-- The expansion of a pseudo-instruction, given the copy `g` (R120). -/
def Pseudo.expand (g : Word) : Pseudo → List Line
  | .line l => [l]
  | .idleN n => List.replicate n (.idle false)
  | .start m => [.write .gctl (g ||| m)]
  | .stop m => [.write .gctl (g &&& ~~~m)]
  | .outOn m => [.write .gctl (g ||| (m <<< 16))]
  | .outOff m => [.write .gctl (g &&& ~~~(m <<< 16))]
  | .pgOn => [.write .gctl (g ||| 0x100#32)]
  | .pgOff => [.write .gctl (g &&& ~~~0x100#32)]
  | .setCmp k c => [.write (.ch k .cmp) (c <<< 16)]
  | .setDuty k d => [.write (.ch k .duty) (dutyCode d)]
  | .clrErr => [.write .err 0x77F#32]
  | .config k o => configLines k o
  | .loadLut n table => .write .lutn (BitVec.ofNat 32 n) :: lutLines 0 table.codes

/-- The lines of a program that starts with the copy `g` (R120). -/
def assembleFrom (g : Word) : List Pseudo → List Line
  | [] => []
  | p :: ps => p.expand g ++ assembleFrom (trackLines g (p.expand g)) ps

/-- The lines of a program; the copy is 0 at its start (R120). -/
def assemble (ps : List Pseudo) : List Line := assembleFrom 0 ps

/-- The block given a program to run: its lines are the input ports of the coming cycles (R119). -/
def State.load (s : State) (ps : List Pseudo) : State :=
  { s with inputs := (assemble ps).map Line.input }

/-- The arguments of `construct` beside the channel's id (R249). -/
structure ConstructArgs where
  sourceClockHz : Rat
  div : Nat
  targetFrequencyHz : Rat
  mode : Mode
  deadTimeSeconds : Rat
  resolution : Resolution
deriving DecidableEq, Repr

/-- The channel of an instance id (R249). -/
def channelOfId (n : Nat) : Except ConfigurationError Ch :=
  match Ch.ofField n with
  | some k => .ok k
  | none => .error .instanceId

/-- The dead-time ticks of `construct`, checked (R249). -/
def constructDeadTime (x : ConstructArgs) (fTb : Rat) : Except ConfigurationError Word :=
  let d := dtTicks x.deadTimeSeconds fTb x.resolution
  if x.deadTimeSeconds < 0 ∨ 65535 < d then .error .deadTime else .ok (BitVec.ofInt 32 d)

/-- The channel and the operands of CONFIG that `construct(id, …)` computes (R249). -/
def constructOperands (id : Nat) (x : ConstructArgs) :
    Except ConfigurationError (Ch × ConfigOperands) := do
  let k ← channelOfId id
  if x.div < 1 ∨ 256 < x.div then .error .divider
  let fTb := timebaseFrequency x.sourceClockHz x.div
  let p ← periodTicks fTb x.targetFrequencyHz x.mode
  let d ← constructDeadTime x fTb
  let half : Word := if x.resolution = .halfCycle then 1 else 0
  .ok (k,
    { mode := x.mode.bits.setWidth 32, clkdiv := BitVec.ofNat 32 (x.div - 1),
      prd := p.setWidth 32, aq := (defaultProfile x.mode).setWidth 32, immed := 0, dben := 1,
      half := half, red := d, fed := d })

/-! ## Host procedures that read the block

A procedure is a list of program lines, a read whose data decides how it goes on, or its end. -/

/-- A host procedure: what it presents to the block, and how it goes on from what it reads. -/
inductive HostProc where
  /-- The procedure is over. -/
  | done
  /-- ConfigurationError: nothing further is presented. -/
  | fail (e : ConfigurationError)
  /-- Program lines, then the rest. -/
  | lines (ps : List Pseudo) (rest : HostProc)
  /-- `RD r`, then the rest, which depends on the data read. -/
  | read (r : RegName) (rest : Word → HostProc)

/-- `RD ERR`; ERR[k] = 1 is a ConfigurationError, else the rest follows (R249, R280). -/
def HostProc.checkErr (k : Ch) (rest : HostProc) : HostProc :=
  .read .err fun err => if err.getLsbD k.toNat then .fail .rejectedWrite else rest

/-- One procedure after another; a failed one ends both (R433: setup errors abort setup). -/
def HostProc.andThen : HostProc → HostProc → HostProc
  | .done, q => q
  | .fail e, _ => .fail e
  | .lines ps rest, q => .lines ps (rest.andThen q)
  | .read r rest, q => .read r fun w => (rest w).andThen q

/-- `construct(id, …)` of R249: stop the channel, clear its flag, configure it, check ERR, start with the output
low. -/
def construct (id : Nat) (x : ConstructArgs) : HostProc :=
  match constructOperands id x with
  | .error e => .fail e
  | .ok (k, o) =>
    .lines [.stop (1#32 <<< k.toNat), .line (.write .err (1#32 <<< k.toNat)), .config k o]
      (.checkErr k (.lines [.setDuty k (.real 0)] .done))

/-- `configureAction` of R280 on channel `k`, which the rule asks to be stopped: read the action table,
replace one field, write it back, check ERR. -/
def configureAction (k : Ch) (pin : Pin) (e : Event) (act : Action) : HostProc :=
  .read (.ch k .aqctl) fun aq =>
    .lines [.line (.write (.ch k .aqctl)
        ((withAction (aq.extractLsb' 0 16) pin e act).setWidth 32))]
      (.checkErr k .done)

/-- `SinusoidTable.build` and the table load of R364: N, PGOFF, LUTN = N, the N codes. -/
def buildTable (sampleRateHz fundamentalHz : Rat) (table : (n : Nat) → SineTable n) : HostProc :=
  match tableSize sampleRateHz fundamentalHz with
  | .error e => .fail e
  | .ok n => .lines [.pgOff, .loadLut n (table n)] .done

/-- `PGON`, which starts the sequencer after the load (R364). -/
def startSequencer : HostProc := .lines [.pgOn] .done

/-- `for k in 0..2: construct(k, …)` of R433, each channel with its own arguments; the first that fails
ends it. -/
def constructAll (x : PerCh ConstructArgs) : HostProc :=
  (construct 0 x.c0).andThen ((construct 1 x.c1).andThen (construct 2 x.c2))

/-- The bring-up order of R433: reset, construct channels 0, 1 and 2, load the table of `n` entries, then
start and enable all three in one write; a failed construction, or an ERR that does not read 0, aborts it. -/
def bringUp (x : PerCh ConstructArgs) (n : Nat) (table : SineTable n) : HostProc :=
  .lines [.line .rst]
    ((constructAll x).andThen
      (.lines [.loadLut n table]
        (.read .err fun err =>
          if err = 0 then .lines [.line (.write .gctl 0x00070107#32)] .done
          else .fail .rejectedWrite)))

/-! ## Running a program and a procedure on the block -/

/-- The cycle in which a line is presented, in place of what the coming cycle would present (R119; log
entry 1). -/
def runLine (l : Line) (s : State) : Result := cycle { s with inputs := l.input :: s.inputs.tail }

/-- The cycles of a list of lines, one line a cycle (R119). -/
def runLines : List Line → State → Result
  | [], s => .next s
  | l :: ls, s => Sys2Proof.Machine.andThen (runLine l s) (runLines ls)

/-- How a host procedure ended: over or failed, with the assembler's copy `g` and the block's state; or the
block stopped. -/
inductive HostOutcome where
  | done (g : Word) (s : State)
  | failed (e : ConfigurationError) (g : Word) (s : State)
  | stopped
deriving DecidableEq, Repr

/-- The read data of the last cycle (R111). -/
def State.readData (s : State) : Word := s.bus.busRdata.getD 0

/-- Runs a host procedure on the block, from the assembler's copy `g` (R120). -/
def HostProc.run : HostProc → Word → State → HostOutcome
  | .done, g, s => .done g s
  | .fail e, g, s => .failed e g s
  | .lines ps rest, g, s =>
    match runLines (assembleFrom g ps) s with
    | .next t => rest.run (trackLines g (assembleFrom g ps)) t
    | _ => .stopped
  | .read r rest, g, s =>
    match runLine (.rd r false) s with
    | .next t => (rest t.readData).run g t
    | _ => .stopped

end Sys2Proof.Machine
end

