-- ==== Sys2Proof/Safety.lean ====
section
/-! DEFINITION. What claims are stated in terms of: the observation of a run (spec/40_cycle_global.md R152), the
invariants of spec/10_state.md R35 and the rules beside it, and the shoot-through guarantee of
spec/44_deadtime.md R317. -/

namespace Sys2Proof

/-- The channel registers that are configuration registers (R19, R156). -/
def ChReg.isConfig : ChReg → Bool
  | .tbctl | .tbprd | .cmpctl | .aqctl | .dbctl | .dbred | .dbfed => true
  | .tbctr | .cmp | .cmpshd | .duty | .outst => false

/-- A write of the number `w` to a channel configuration register is illegal in value (R114, R115). -/
def ChReg.illegal : ChReg → Nat → Prop
  | .tbctl, w => w % 4 = 3 ∨ w / 4 % 64 ≠ 0 ∨ 65536 ≤ w
  | .tbprd, w => 65536 ≤ w
  | .cmpctl, w => 2 ≤ w
  | .aqctl, w => 65536 ≤ w
  | .dbctl, w => w / 2 % 4 ≠ 0 ∨ 16 ≤ w
  | .dbred, w => 65536 ≤ w
  | .dbfed, w => 65536 ≤ w
  | .tbctr, _ => False
  | .cmp, _ => False
  | .cmpshd, _ => False
  | .duty, _ => False
  | .outst, _ => False

end Sys2Proof

namespace Sys2Proof.Machine

/-- The observation of one cycle: the response and the two pin samples (R152). -/
structure Observation where
  bus : BusResult
  rise : PerCh Pins
  fall : PerCh Pins
deriving DecidableEq, Repr

/-- The outputs of the cycle that ended in `s` (R152). -/
def State.observation (s : State) : Observation :=
  { bus := s.bus, rise := s.pinsRise, fall := s.pinsFall }

/-- `n` steps, stopping at the first fault or refusal. -/
def steps : Nat → State → Result
  | 0, s => .next s
  | n + 1, s => andThen (step s) (steps n)

/-- The observations of the next `n` cycles, oldest first (R152). -/
def observe : Nat → State → List Observation
  | 0, _ => []
  | n + 1, s =>
    match step s with
    | .next t => t.observation :: observe n t
    | _ => []

/-- The counter of a running channel is where its mode can put it (R35, R197). -/
def Channel.counterInRange (c : Channel) : Prop :=
  c.ctr.toNat ≤ c.prd.toNat ∧
    (c.mode = .up → c.dir = .up) ∧
    (c.mode = .down → c.dir = .down) ∧
    (c.mode = .upDown → c.prd ≠ 0 → c.dir = .up → c.ctr.toNat < c.prd.toNat) ∧
    (c.mode = .upDown → c.prd ≠ 0 → c.dir = .down → 0 < c.ctr.toNat)

/-- `n` runs of one operation in a row. -/
def execTimes (i : Instr) : Nat → State → Result
  | 0, s => .next s
  | n + 1, s => andThen (exec i s) (execTimes i n)

/-! ## The address map, as the spec's tables say it -/

/-- The address holds a register or a table entry (R81). -/
abbrev mapped (a : Nat) : Prop :=
  a ≤ 0x18 ∨ (0x100 ≤ a ∧ a ≤ 0x12F) ∨ (0x140 ≤ a ∧ a ≤ 0x16F) ∨ (0x180 ≤ a ∧ a ≤ 0x1AF) ∨
    (0x1000 ≤ a ∧ a ≤ 0x1FFF)

/-- The address is that of ID, CHk.TBCTR, CHk.CMPSHD or CHk.OUTST (R40, R47, R50, R55). -/
abbrev readOnly (a : Nat) : Prop :=
  a = 0x000 ∨ a = 0x108 ∨ a = 0x114 ∨ a = 0x12C ∨ a = 0x148 ∨ a = 0x154 ∨ a = 0x16C ∨
    a = 0x188 ∨ a = 0x194 ∨ a = 0x1AC

/-! ## Invariants -/

/-- What every channel keeps, within a cycle and between cycles (R35, R197, R244). The bounds on CTR and
EC and the equality of the compare registers are those of a running channel: a stopped one may hold
a CTR above a new PRD (C11), an EC above a new 2·DIV, and a CMPA other than CMPS (log entry 12). -/
structure Channel.Inv (c : Channel) : Prop where
  cmpa_le : c.cmpa.toNat ≤ c.prd.toNat
  cmps_le : c.cmps.toNat ≤ c.prd.toNat
  dtc_le : c.dtc.toNat ≤ Config.dtcMax
  ec_lt : c.run = true → c.ec.toNat < 2 * c.div
  fresh_ec : c.fresh = true → c.run = true ∧ c.ec = 0
  counter : c.run = true → c.fresh = false → c.counterInRange
  immediate : c.run = true → c.fresh = false → c.immed = true → c.cmpa = c.cmps

/-- What the block keeps from cycle to cycle: every channel its invariant, with no start pending
(R35, R196) and its prescaler at an even sub-step (R193); the table size and the indices in range
(R35, R359); the table RAM in canonical form; and the last pin sample equal to the pins of the state
(R319). -/
structure State.Inv (s : State) : Prop where
  channel : ∀ k, (s.chan k).Inv
  started : ∀ k, (s.chan k).fresh = false
  rising : ∀ k, (s.chan k).ec.toNat % 2 = 0
  lutn_ge : 2 ≤ s.lutn.toNat
  lutn_le : s.lutn.toNat ≤ 1024
  idx_lt : ∀ p, (s.idx.get p).toNat < s.lutn.toNat
  lut_wf : s.lut.wf
  pins_fall : s.pinsFall = s.pins

/-- No shoot-through: with the dead-time engine enabled, the two pins of channel `k` are not both high
in either sample (R317 item 1). -/
def State.noShootThrough (s : State) (k : Ch) : Prop :=
  ((s.pinsRise.get k).a && (s.pinsRise.get k).b) = false ∧
    ((s.pinsFall.get k).a && (s.pinsFall.get k).b) = false

end Sys2Proof.Machine
end

