-- ==== Sys2Proof/Certificates/Slice0/Obligations.lean ====
section
/-! DEFINITION. The statements for the provers, from the numbered rules of spec/. Each docstring names the
rules it formalises, and the constructors of Instr where it speaks of a register of every channel. -/

open Sys2Proof Sys2Proof.Machine

/-- Every well-formed bus operation decodes from its own encoding. R110, R113, R116, R117: no bit of
an encoding is dropped. -/
def Obligations.DecodeOfEncode : Prop :=
  ∀ i : Instr, i.wellFormed = true → i.isBus = true →
    ∃ h d, encode i = some (h, d) ∧ d.isSome = headerW h ∧ decode h (d.getD 0) = i

/-- Every header decodes to a well-formed bus operation that encodes to it. R110, R113, R117, R118:
the decoder is total and every header has one meaning. -/
def Obligations.EncodeOfDecode : Prop :=
  ∀ (h : Header) (w : Word),
    (decode h w).wellFormed = true ∧ (decode h w).isBus = true ∧
      encode (decode h w) = some (h, if headerW h then some w else none)

/-- Headers written out from the tables decode to their operations. R116, R391 and the headers of
spec/95_test_vectors.md (B1 to B12). -/
def Obligations.WrittenOutHeadersDecode : Prop :=
  ∀ w : Word,
    decode 0x4000#16 w = .rdId ∧ decode 0xC004#16 w = .wrGctl w ∧ decode 0x400C#16 w = .rdLutn ∧
    decode 0xC014#16 w = .wrPhidx1 w ∧ decode 0xC140#16 w = .wrCh1Tbctl w ∧
    decode 0x4188#16 w = .rdCh2Tbctr ∧ decode 0xC110#16 w = .wrCh0Cmp w ∧
    decode 0xC15C#16 w = .wrCh1Aqctl w ∧ decode 0xC1A8#16 w = .wrCh2Dbfed w ∧
    decode 0x5FFC#16 w = .rdLut 1023 ∧ decode 0xD004#16 w = .wrLut 1 w ∧
    decode 0xC000#16 w = .slverrRoWrId w ∧ decode 0x4006#16 w = .slverrAlign1 none 6 ∧
    decode 0x2004#16 w = .slverrSize1 none 4 ∧
    decode 0xC1C0#16 w = .slverrUnmappedChannel3 (some w) 0x1C0

/-- A transaction is answered SLVERR with the first cause that applies, else OKAY. R391 (with the
map of R81): the cause of an SLVERR response and its priority. -/
def Obligations.SlverrCauseOrder : Prop :=
  (Cause.size.code = 1 ∧ Cause.align.code = 2 ∧ Cause.unmapped.code = 3 ∧ Cause.ro.code = 4) ∧
  ∀ (h : Header) (w : Word) (s : State),
    (headerSize h ≠ 2 → exec (decode h w) s = .next (s.respond (.slverr .size))) ∧
    (headerSize h = 2 → (headerAddr h).toNat % 4 ≠ 0 →
      exec (decode h w) s = .next (s.respond (.slverr .align))) ∧
    (headerSize h = 2 → (headerAddr h).toNat % 4 = 0 → ¬ mapped (headerAddr h).toNat →
      exec (decode h w) s = .next (s.respond (.slverr .unmapped))) ∧
    (headerSize h = 2 → (headerAddr h).toNat % 4 = 0 → mapped (headerAddr h).toNat →
      headerW h = true → readOnly (headerAddr h).toNat →
      exec (decode h w) s = .next (s.respond (.slverr .ro))) ∧
    (headerSize h = 2 → (headerAddr h).toNat % 4 = 0 → mapped (headerAddr h).toNat →
      ¬ (headerW h = true ∧ readOnly (headerAddr h).toNat) →
      ∃ d t, exec (decode h w) s = .next t ∧ t.bus = .okay d)

/-- A step runs the operation the presented transaction decodes to. R150, R154: the per-operation
statements reach a run through this one. The list of coming inputs and the mark `wrote` are the
model's own (log entries 1, 16). -/
def Obligations.StepRunsPresentedTransaction : Prop :=
  ∀ (s : State) (x : CycleInput) (rest : List CycleInput) (i : Instr),
    s.inputs = x :: rest → x.rst = false → x.busReq = true →
    decode (packHeader x.busWe x.busSize x.busAddr) x.busWdata = i →
    step s =
      andThen (exec i { s with inputs := rest, bus := .noTransaction, wrote := none })
        (afterBus x.sampleTick)

/-- After the bus: the sample step, the rising sub-steps, a pin sample, the falling sub-steps, a pin
sample. R150, R152: the order within a cycle. The clause for an empty list of inputs is the model's
choice (log entry 1), not a rule of the spec. -/
def Obligations.CycleOrder : Prop :=
  (∀ (s : State) (x : CycleInput) (rest : List CycleInput),
    s.inputs = x :: rest → x.rst = false → x.busReq = false →
    step s = afterBus x.sampleTick { s with inputs := rest, bus := .noTransaction, wrote := none }) ∧
  (∀ s : State, s.inputs = [] →
    step s = afterBus false { s with bus := .noTransaction, wrote := none }) ∧
  ∀ (tick : Bool) (s : State),
    afterBus tick s =
      andThen (if tick = true ∧ s.pgen = true then exec .sample s else .next s) fun s1 =>
      andThen (substep .c0 s1) fun s2 => andThen (substep .c1 s2) fun s3 =>
      andThen (substep .c2 s3) fun s4 =>
      andThen (substep .c0 { s4 with pinsRise := s4.pins }) fun s5 =>
      andThen (substep .c1 s5) fun s6 => andThen (substep .c2 s6) fun s7 =>
      .next { s7 with pinsFall := s7.pins }

/-- Which internal operation a sub-step runs, and the prescaler count after it. R193, R112: the
dispatch of a sub-step. -/
def Obligations.SubstepSelection : Prop :=
  (∀ c : Channel, c.advanceEc.ec.toNat = (c.ec.toNat + 1) % (2 * (c.clkdiv.toNat + 1)) ∧
    c.advanceEc = { c with ec := c.advanceEc.ec }) ∧
  ∀ (k : Ch) (s : State),
    ((s.chan k).run = false → substep k s = .next s) ∧
    ((s.chan k).run = true → (s.chan k).ec = 0 →
      substep k s =
        andThen (exec (.tbTick k) s) fun t => .next (t.setChan k (t.chan k).advanceEc)) ∧
    ((s.chan k).run = true → (s.chan k).ec ≠ 0 →
      (s.chan k).ec.toNat = (s.chan k).clkdiv.toNat + 1 → (s.chan k).half = true →
      substep k s =
        andThen (exec (.halfTick k) s) fun t => .next (t.setChan k (t.chan k).advanceEc)) ∧
    ((s.chan k).run = true → (s.chan k).ec ≠ 0 →
      ¬ ((s.chan k).ec.toNat = (s.chan k).clkdiv.toNat + 1 ∧ (s.chan k).half = true) →
      substep k s = .next (s.setChan k (s.chan k).advanceEc))

/-- RESET leaves the reset table of R430 and drops the pins, whatever else the cycle presents. R430:
the values after reset. That `inputs` and `draws` stay is the model's choice (log entries 1, 3). -/
def Obligations.ResetCycle : Prop :=
  (∀ s : State, exec .reset s = .next { State.reset with inputs := s.inputs, draws := s.draws }) ∧
  (∀ (s : State) (x : CycleInput) (rest : List CycleInput), s.inputs = x :: rest → x.rst = true →
    step s = .next { State.reset with inputs := rest, draws := s.draws }) ∧
  (∀ k, State.reset.chan k =
    { run := false, outen := false, fresh := false, ec := 0, mode := .up, clkdiv := 0, prd := 0,
      ctr := 0, dir := .up, immed := false, cmpa := 0, cmps := 0, duty := 0, aq := 0,
      dben := false, pol := .activeHighComplementary, half := false, red := 0, fed := 0,
      qa := false, qb := false, dtc := 0 }) ∧
  State.reset.pgen = false ∧ State.reset.lutn = 1024 ∧
  State.reset.idx.get .c0 = 0 ∧ State.reset.idx.get .c1 = 341 ∧ State.reset.idx.get .c2 = 683 ∧
  (∀ k, State.reset.cfgerr.get k = false ∧ State.reset.clamp.get k = false ∧
    State.reset.coll.get k = false) ∧
  State.reset.luterr = false ∧ (∀ a, State.reset.lut.readByte a = none) ∧
  State.reset.bus.busResp = some 0 ∧ State.reset.bus.busRdata = some 0 ∧
  (∀ k, State.reset.pinsRise.get k = { a := false, b := false } ∧
    State.reset.pinsFall.get k = { a := false, b := false })

/-- Every step of every state ends in a next state. R151: "nothing in the block waits: every cycle
completes". -/
def Obligations.EveryCycleCompletes : Prop :=
  (∀ s : State, ∃ t, step s = .next t) ∧ ∀ (i : Instr) (s : State), ∃ t, exec i s = .next t

/-- The state after reset satisfies the block's invariant. R35, R430: the invariant `State.Inv` of
Safety.lean at reset (its clauses on the table RAM and the pins are the model's form, log entries
10, 13). -/
def Obligations.InvariantAtReset : Prop :=
  State.reset.Inv

/-- Every step keeps the block's invariant. R35 with the write rules of R190 to R193 (log entry 12),
R193, R197, R244, R319, R359; the form of the table RAM and the held pins are the model's (log
entries 10, 13). -/
def Obligations.StepKeepsBlockInvariant : Prop :=
  ∀ s t : State, s.Inv → step s = .next t → t.Inv

/-- Every step keeps the canonical form of the table RAM. R82, R89; the form itself is the model's
(log entry 10). -/
def Obligations.StepKeepsTableCanonical : Prop :=
  ∀ s t : State, s.lut.wf → step s = .next t → t.lut.wf

/-- RD ID answers the constant, and a write to ID is SLVERR RO. R160. -/
def Obligations.RdIdConstant : Prop :=
  ∀ (s : State) (w : Word),
    decode 0x4000#16 w = .rdId ∧ decode 0xC000#16 w = .slverrRoWrId w ∧
    exec .rdId s = .next { s with bus := .okay 0x50574D01#32 } ∧
    exec (.slverrRoWrId w) s = .next { s with bus := .slverr .ro }

/-- RD GCTL answers OUTEN, PGEN and RUN in their places, reserved bits 0. R161, R41. -/
def Obligations.RdGctlFields : Prop :=
  ∀ s : State,
    exec .rdGctl s =
      .next { s with bus := .okay (BitVec.ofNat 32
        ((s.chan .c0).run.toNat + 2 * (s.chan .c1).run.toNat + 4 * (s.chan .c2).run.toNat +
          256 * s.pgen.toNat + 65536 * (s.chan .c0).outen.toNat +
          131072 * (s.chan .c1).outen.toNat + 262144 * (s.chan .c2).outen.toNat)) }

/-- RD ERR answers the sticky flags in their places, and does not clear them. R163. -/
def Obligations.RdErrFields : Prop :=
  (∀ w : Word, decode 0x4008#16 w = .rdErr) ∧
  ∀ s : State,
    exec .rdErr s =
      .next { s with bus := .okay (BitVec.ofNat 32
        ((s.cfgerr.get .c0).toNat + 2 * (s.cfgerr.get .c1).toNat + 4 * (s.cfgerr.get .c2).toNat +
          8 * s.luterr.toNat + 16 * (s.clamp.get .c0).toNat + 32 * (s.clamp.get .c1).toNat +
          64 * (s.clamp.get .c2).toNat + 256 * (s.coll.get .c0).toNat +
          512 * (s.coll.get .c1).toNat + 1024 * (s.coll.get .c2).toNat)) }

/-- Reads of TBCTL, TBPRD, CMPCTL, AQCTL, DBCTL, DBRED and DBFED answer their fields. R202, R231,
R277, R315: rdChkTbctl, rdChkTbprd, rdChkCmpctl, rdChkAqctl, rdChkDbctl, rdChkDbred and rdChkDbfed
for k = 0, 1, 2. -/
def Obligations.RdChannelConfiguration : Prop :=
  (∀ (k : Ch) (w : Word) (r : ChReg) (h : Nat),
    (r, h) ∈ [(.tbctl, 0x4100), (.tbprd, 0x4104), (.cmpctl, 0x410C), (.aqctl, 0x411C),
      (.dbctl, 0x4120), (.dbred, 0x4124), (.dbfed, 0x4128)] →
    decode (BitVec.ofNat 16 (h + 0x40 * k.toNat)) w = .chRead k r) ∧
  ∀ (k : Ch) (s : State),
    exec (.chRead k .tbctl) s = .next { s with bus := .okay (BitVec.ofNat 32
      (256 * (s.chan k).clkdiv.toNat +
        (if (s.chan k).mode = .up then 0 else if (s.chan k).mode = .down then 1 else 2))) } ∧
    exec (.chRead k .tbprd) s =
      .next { s with bus := .okay (BitVec.ofNat 32 (s.chan k).prd.toNat) } ∧
    exec (.chRead k .cmpctl) s =
      .next { s with bus := .okay (BitVec.ofNat 32 (s.chan k).immed.toNat) } ∧
    exec (.chRead k .aqctl) s =
      .next { s with bus := .okay (BitVec.ofNat 32 (s.chan k).aq.toNat) } ∧
    exec (.chRead k .dbctl) s = .next { s with bus := .okay (BitVec.ofNat 32
      (8 * (s.chan k).half.toNat + 2 * (s.chan k).pol.bits.toNat + (s.chan k).dben.toNat)) } ∧
    exec (.chRead k .dbred) s =
      .next { s with bus := .okay (BitVec.ofNat 32 (s.chan k).red.toNat) } ∧
    exec (.chRead k .dbfed) s =
      .next { s with bus := .okay (BitVec.ofNat 32 (s.chan k).fed.toNat) } ∧
    (s.chan k).pol.bits = 0

/-- Reads of TBCTR, CMP, CMPSHD and DUTY answer the state at the start of the cycle. R201, R239,
R240, R243: rdChkTbctr, rdChkCmp, rdChkCmpshd, rdChkDuty, slverrRoWrChkTbctr and slverrRoWrChkCmpshd
for k = 0, 1, 2. -/
def Obligations.RdChannelStatus : Prop :=
  (∀ (k : Ch) (w : Word) (r : ChReg) (h : Nat),
    (r, h) ∈ [(.tbctr, 0x4108), (.cmp, 0x4110), (.cmpshd, 0x4114), (.duty, 0x4118)] →
    decode (BitVec.ofNat 16 (h + 0x40 * k.toNat)) w = .chRead k r) ∧
  (∀ (k : Ch) (w : Word),
    decode (BitVec.ofNat 16 (0xC108 + 0x40 * k.toNat)) w = .chWrite k .tbctr w ∧
    decode (BitVec.ofNat 16 (0xC114 + 0x40 * k.toNat)) w = .chWrite k .cmpshd w) ∧
  (∀ (k : Ch) (s : State) (x : CycleInput) (rest : List CycleInput),
    s.inputs = x :: rest → x.rst = false →
    (x.transaction = some (.chRead k .tbctr) → ∃ t, step s = .next t ∧ t.bus = .okay (BitVec.ofNat 32
      (65536 * (if (s.chan k).dir = .down then 1 else 0) + (s.chan k).ctr.toNat))) ∧
    (x.transaction = some (.chRead k .cmp) → ∃ t, step s = .next t ∧
      t.bus = .okay (BitVec.ofNat 32 (65536 * (s.chan k).cmpa.toNat))) ∧
    (x.transaction = some (.chRead k .cmpshd) → ∃ t, step s = .next t ∧
      t.bus = .okay (BitVec.ofNat 32 (65536 * (s.chan k).cmps.toNat))) ∧
    (x.transaction = some (.chRead k .duty) → ∃ t, step s = .next t ∧
      t.bus = .okay (s.chan k).duty)) ∧
  ∀ (k : Ch) (s : State) (w : Word),
    exec (.chRead k .tbctr) s = .next { s with bus := .okay (BitVec.ofNat 32
      (65536 * (if (s.chan k).dir = .down then 1 else 0) + (s.chan k).ctr.toNat)) } ∧
    exec (.chRead k .cmp) s =
      .next { s with bus := .okay (BitVec.ofNat 32 (65536 * (s.chan k).cmpa.toNat)) } ∧
    exec (.chRead k .cmpshd) s =
      .next { s with bus := .okay (BitVec.ofNat 32 (65536 * (s.chan k).cmps.toNat)) } ∧
    exec (.chRead k .duty) s = .next { s with bus := .okay (s.chan k).duty } ∧
    exec (.chWrite k .tbctr w) s = .next { s with bus := .slverr .ro } ∧
    exec (.chWrite k .cmpshd w) s = .next { s with bus := .slverr .ro }

/-- RD CHk.OUTST answers QA, QB, OUT_A, OUT_B and the two pins. R314, R316, R318, R319: rdChkOutst
and slverrRoWrChkOutst for k = 0, 1, 2. -/
def Obligations.RdOutstFields : Prop :=
  ∀ (k : Ch) (s : State) (w : Word) (outA outB : Bool),
    outA = (if (s.chan k).dben = true
      then (s.chan k).qa && decide ((s.chan k).dtc.toNat ≥ (s.chan k).red.toNat)
      else (s.chan k).qa) →
    outB = (if (s.chan k).dben = true
      then !(s.chan k).qa && decide ((s.chan k).dtc.toNat ≥ (s.chan k).fed.toNat)
      else (s.chan k).qb) →
    exec (.chRead k .outst) s = .next { s with bus := .okay (BitVec.ofNat 32
      ((s.chan k).qa.toNat + 2 * (s.chan k).qb.toNat + 4 * outA.toNat + 8 * outB.toNat +
        16 * ((s.chan k).outen && outA).toNat + 32 * ((s.chan k).outen && outB).toNat)) } ∧
    exec (.chWrite k .outst w) s = .next { s with bus := .slverr .ro }

/-- RD LUTN and RD PHIDXp answer the table size and the index. R354, R357: rdLutn, rdPhidx0,
rdPhidx1, rdPhidx2. -/
def Obligations.RdTableRegisters : Prop :=
  ∀ (s : State) (p : Ch),
    exec .rdLutn s = .next { s with bus := .okay (BitVec.ofNat 32 s.lutn.toNat) } ∧
    exec (.phidxRead p) s = .next { s with bus := .okay (BitVec.ofNat 32 (s.idx.get p).toNat) }

/-- RD LUT[i] answers the written entry, or a free draw. R82 (the order of the lanes), R89, R93:
rdLut. The free draw is unconstrained (log entry 3); that a partly listed entry gives a draw is the
model's choice (log entry 10), in states no run reaches. -/
def Obligations.RdLutEntryOrDraw : Prop :=
  ∀ (i : LutIndex) (s : State),
    (∀ b0 b1 b2 b3 : Byte,
      s.lut.readByte (0x1000 + 4 * i.toNat) = some b0 →
      s.lut.readByte (0x1000 + 4 * i.toNat + 1) = some b1 →
      s.lut.readByte (0x1000 + 4 * i.toNat + 2) = some b2 →
      s.lut.readByte (0x1000 + 4 * i.toNat + 3) = some b3 →
      exec (.rdLut i) s = .next { s with bus := .okay (BitVec.ofNat 32
        (b0.toNat + 256 * b1.toNat + 65536 * b2.toNat + 16777216 * b3.toNat)) }) ∧
    ((∃ j, j < 4 ∧ s.lut.readByte (0x1000 + 4 * i.toNat + j) = none) →
      exec (.rdLut i) s =
        .next { s with bus := .okay (Config.lutDraw s.draws), draws := s.draws + 1 })

/-- WR GCTL starts and stops channels, enables outputs unless an error is flagged, and sets PGEN.
R162: wrGctl. -/
def Obligations.WrGctlStartsStopsEnables : Prop :=
  ∀ (w : Word) (s : State), ∃ c : PerCh Channel,
    exec (.wrGctl w) s =
      .next { s with ch := c, pgen := w.getLsbD 8, bus := .okay 0 } ∧
    ∀ k : Ch,
      c.get k = { s.chan k with
        run := w.getLsbD k.toNat
        fresh := if w.getLsbD k.toNat = true ∧ (s.chan k).run = false then true
          else (s.chan k).fresh
        ec := if w.getLsbD k.toNat = true ∧ (s.chan k).run = false then 0 else (s.chan k).ec
        outen := if w.getLsbD (16 + k.toNat) = true ∧ (s.chan k).outen = false ∧
            s.cfgerr.get k = true then false else w.getLsbD (16 + k.toNat) }

/-- WR ERR clears the flags whose bits are 1 and nothing else. R166: wrErr. -/
def Obligations.WrErrClearsSelectedFlags : Prop :=
  ∀ (w : Word) (s : State), ∃ e c o : PerCh Bool,
    exec (.wrErr w) s =
      .next { s with
        cfgerr := e
        luterr := s.luterr && !w.getLsbD 3
        clamp := c
        coll := o
        bus := .okay 0 } ∧
    ∀ k : Ch,
      e.get k = (s.cfgerr.get k && !w.getLsbD k.toNat) ∧
      c.get k = (s.clamp.get k && !w.getLsbD (4 + k.toNat)) ∧
      o.get k = (s.coll.get k && !w.getLsbD (8 + k.toNat))

/-- WR CHk.TBCTL sets MODE and CLKDIV of a stopped channel, else is rejected. R190: wrChkTbctl for k
= 0, 1, 2. -/
def Obligations.WrTbctlSetsModeAndDivider : Prop :=
  (∀ (k : Ch) (w : Word),
    decode (BitVec.ofNat 16 (0xC100 + 0x40 * k.toNat)) w = .chWrite k .tbctl w) ∧
  ∀ (k : Ch) (s : State),
    (∀ (m : Mode) (c : Nat) (d : BitVec 8), (m, c) ∈ [(.up, 0), (.down, 1), (.upDown, 2)] →
      (s.chan k).run = false →
      exec (.chWrite k .tbctl (BitVec.ofNat 32 (c + 256 * d.toNat))) s =
        .next { s.setChan k { s.chan k with mode := m, clkdiv := d } with bus := .okay 0 }) ∧
    (∀ w : Word, (s.chan k).run = true ∨ ChReg.tbctl.illegal w.toNat →
      exec (.chWrite k .tbctl w) s =
        .next { s with cfgerr := s.cfgerr.set k true, bus := .okay 0 })

/-- WR CHk.TBPRD sets PRD of a stopped channel and brings the compare registers within it. R191,
R192: wrChkTbprd for k = 0, 1, 2. -/
def Obligations.WrTbprdSetsPeriodAndClamps : Prop :=
  (∀ (k : Ch) (w : Word),
    decode (BitVec.ofNat 16 (0xC104 + 0x40 * k.toNat)) w = .chWrite k .tbprd w) ∧
  ∀ (k : Ch) (s : State),
    (∀ p : Tick, (s.chan k).run = false →
      exec (.chWrite k .tbprd (BitVec.ofNat 32 p.toNat)) s =
        .next { s.setChan k { s.chan k with
            prd := p
            cmps := BitVec.ofNat 16 (min (s.chan k).cmps.toNat p.toNat)
            cmpa := BitVec.ofNat 16 (min (s.chan k).cmpa.toNat p.toNat) } with
          clamp := s.clamp.set k (s.clamp.get k ||
            decide (p.toNat < (s.chan k).cmps.toNat ∨ p.toNat < (s.chan k).cmpa.toNat))
          bus := .okay 0 }) ∧
    (∀ w : Word, (s.chan k).run = true ∨ ChReg.tbprd.illegal w.toNat →
      exec (.chWrite k .tbprd w) s =
        .next { s with cfgerr := s.cfgerr.set k true, bus := .okay 0 })

/-- WR CHk.CMPCTL sets IMMED of a stopped channel, else is rejected. R230: wrChkCmpctl for k = 0, 1,
2. -/
def Obligations.WrCmpctlSelectsLoadPolicy : Prop :=
  ∀ (k : Ch) (s : State),
    (∀ b : Bool, (s.chan k).run = false →
      exec (.chWrite k .cmpctl (BitVec.ofNat 32 b.toNat)) s =
        .next { s.setChan k { s.chan k with immed := b } with bus := .okay 0 }) ∧
    (∀ w : Word, (s.chan k).run = true ∨ ChReg.cmpctl.illegal w.toNat →
      exec (.chWrite k .cmpctl w) s =
        .next { s with cfgerr := s.cfgerr.set k true, bus := .okay 0 })

/-- WR CHk.AQCTL sets the action table of a stopped channel, else is rejected. R276: wrChkAqctl for
k = 0, 1, 2. -/
def Obligations.WrAqctlSetsActionTable : Prop :=
  (∀ (k : Ch) (w : Word),
    decode (BitVec.ofNat 16 (0xC11C + 0x40 * k.toNat)) w = .chWrite k .aqctl w) ∧
  ∀ (k : Ch) (s : State),
    (∀ v : BitVec 16, (s.chan k).run = false →
      exec (.chWrite k .aqctl (BitVec.ofNat 32 v.toNat)) s =
        .next { s.setChan k { s.chan k with aq := v } with bus := .okay 0 }) ∧
    (∀ w : Word, (s.chan k).run = true ∨ ChReg.aqctl.illegal w.toNat →
      exec (.chWrite k .aqctl w) s =
        .next { s with cfgerr := s.cfgerr.set k true, bus := .okay 0 })

/-- WR CHk.DBCTL sets EN and HALF of a stopped channel, else is rejected. R310: wrChkDbctl for k =
0, 1, 2. -/
def Obligations.WrDbctlSetsDeadTimeControl : Prop :=
  ∀ (k : Ch) (s : State),
    (∀ en half : Bool, (s.chan k).run = false →
      exec (.chWrite k .dbctl (BitVec.ofNat 32 (en.toNat + 8 * half.toNat))) s =
        .next { s.setChan k { s.chan k with
          dben := en, pol := .activeHighComplementary, half := half } with bus := .okay 0 }) ∧
    (∀ w : Word, (s.chan k).run = true ∨ ChReg.dbctl.illegal w.toNat →
      exec (.chWrite k .dbctl w) s =
        .next { s with cfgerr := s.cfgerr.set k true, bus := .okay 0 })

/-- WR CHk.DBRED and WR CHk.DBFED set the delays of a stopped channel, else are rejected. R311:
wrChkDbred and wrChkDbfed for k = 0, 1, 2. -/
def Obligations.WrDelaysSetDeadTime : Prop :=
  ∀ (k : Ch) (s : State),
    (∀ v : Tick, (s.chan k).run = false →
      exec (.chWrite k .dbred (BitVec.ofNat 32 v.toNat)) s =
        .next { s.setChan k { s.chan k with red := v } with bus := .okay 0 } ∧
      exec (.chWrite k .dbfed (BitVec.ofNat 32 v.toNat)) s =
        .next { s.setChan k { s.chan k with fed := v } with bus := .okay 0 }) ∧
    (∀ w : Word, (s.chan k).run = true ∨ ChReg.dbred.illegal w.toNat →
      exec (.chWrite k .dbred w) s =
        .next { s with cfgerr := s.cfgerr.set k true, bus := .okay 0 }) ∧
    (∀ w : Word, (s.chan k).run = true ∨ ChReg.dbfed.illegal w.toNat →
      exec (.chWrite k .dbfed w) s =
        .next { s with cfgerr := s.cfgerr.set k true, bus := .okay 0 })

/-- WR LUTN sets the table size and the three start indices, else is rejected. R353: wrLutn. -/
def Obligations.WrLutnSetsSizeAndIndices : Prop :=
  (∀ w : Word, decode 0xC00C#16 w = .wrLutn w) ∧
  ∀ s : State,
    (∀ n : Nat, 2 ≤ n → n ≤ 1024 → s.pgen = false →
      exec (.wrLutn (BitVec.ofNat 32 n)) s =
        .next { s with
          lutn := BitVec.ofNat 11 n
          idx := { c0 := 0, c1 := BitVec.ofNat 10 ((n + 1) / 3),
                   c2 := BitVec.ofNat 10 ((2 * n + 1) / 3) }
          bus := .okay 0 }) ∧
    (∀ w : Word, s.pgen = true ∨ w.toNat < 2 ∨ 1024 < w.toNat →
      exec (.wrLutn w) s = .next { s with luterr := true, bus := .okay 0 })

/-- WR PHIDXp sets the index of phase p, else is rejected. R356: wrPhidx0, wrPhidx1, wrPhidx2. -/
def Obligations.WrPhidxSetsIndex : Prop :=
  ∀ (p : Ch) (s : State),
    (∀ i : LutIndex, i.toNat < s.lutn.toNat → s.pgen = false →
      exec (.phidxWrite p (BitVec.ofNat 32 i.toNat)) s =
        .next { s with idx := s.idx.set p i, bus := .okay 0 }) ∧
    (∀ w : Word, s.pgen = true ∨ s.lutn.toNat ≤ w.toNat ∨ 1024 ≤ w.toNat →
      exec (.phidxWrite p w) s = .next { s with luterr := true, bus := .okay 0 })

/-- WR LUT[i] stores its word at 0x1000 + 4·i and nowhere else, refused while PGEN = 1. R82, R93:
wrLut. -/
def Obligations.WrLutStoresEntry : Prop :=
  ∀ (i : LutIndex) (w : Word) (s : State),
    (s.pgen = false → ∃ m : Memory,
      exec (.wrLut i w) s = .next { s with lut := m, bus := .okay 0 } ∧
      (∀ j, j < 4 →
        m.readByte (0x1000 + 4 * i.toNat + j) = some (BitVec.ofNat 8 (w.toNat / 256 ^ j))) ∧
      (∀ a, a < 0x1000 + 4 * i.toNat ∨ 0x1000 + 4 * i.toNat + 4 ≤ a →
        m.readByte a = s.lut.readByte a) ∧
      ∀ t : State, t.lut = m → exec (.rdLut i) t = .next { t with bus := .okay w }) ∧
    (s.pgen = true → exec (.wrLut i w) s = .next { s with luterr := true, bus := .okay 0 })

/-- WR CHk.CMP writes the shadow compare value, clamped to PRD, and with IMMED = 1 the active one.
R238, R244: wrChkCmp for k = 0, 1, 2. The mark `wrote` is the model's own (log entry 16). -/
def Obligations.WrCmpClampsToPeriod : Prop :=
  ∀ (k : Ch) (w : Word) (s : State) (v : Nat), v = w.toNat / 65536 →
    exec (.chWrite k .cmp w) s =
      .next { s.setChan k { s.chan k with
          cmps := BitVec.ofNat 16 (min v (s.chan k).prd.toNat)
          cmpa := if (s.chan k).immed = true then BitVec.ofNat 16 (min v (s.chan k).prd.toNat)
            else (s.chan k).cmpa } with
        clamp := s.clamp.set k (s.clamp.get k || decide ((s.chan k).prd.toNat < v))
        wrote := some k
        bus := .okay 0 }

/-- WR CHk.DUTY stores the code and feeds its converted value to the compare path. R242, R244:
wrChkDuty for k = 0, 1, 2. The mark `wrote` is the model's own (log entry 16). -/
def Obligations.WrDutyConvertsCode : Prop :=
  ∀ (k : Ch) (w : Word) (s : State),
    exec (.chWrite k .duty w) s =
      .next { s.setChan k { s.chan k with
          duty := w
          cmps := (convert w (s.chan k).mode (s.chan k).prd).1
          cmpa := if (s.chan k).immed = true then (convert w (s.chan k).mode (s.chan k).prd).1
            else (s.chan k).cmpa } with
        clamp := s.clamp.set k (s.clamp.get k || decide (w.toInt < 0 ∨ 0x10000 < w.toInt))
        wrote := some k
        bus := .okay 0 }

/-- Every SLVERR operation gives its error response and changes no state. R390, R391: the SLVERR
rows (for k = 0, 1, 2 slverrRoWrChkTbctr, slverrRoWrChkCmpshd, slverrRoWrChkOutst). -/
def Obligations.SlverrChangesNothing : Prop :=
  (∀ c : Cause, (BusResult.slverr c).busResp = some 1 ∧ (BusResult.slverr c).busRdata = some 0) ∧
  ∀ (s : State) (d : Option Word) (a : Addr) (w : Word) (k : Ch),
    exec (.slverrSize0 d a) s = .next { s with bus := .slverr .size } ∧
    exec (.slverrSize1 d a) s = .next { s with bus := .slverr .size } ∧
    exec (.slverrSize3 d a) s = .next { s with bus := .slverr .size } ∧
    exec (.slverrAlign0 d a) s = .next { s with bus := .slverr .align } ∧
    exec (.slverrAlign1 d a) s = .next { s with bus := .slverr .align } ∧
    exec (.slverrUnmappedGlobalPage d a) s = .next { s with bus := .slverr .unmapped } ∧
    exec (.slverrUnmappedChannelOffset d a) s = .next { s with bus := .slverr .unmapped } ∧
    exec (.slverrUnmappedChannel3 d a) s = .next { s with bus := .slverr .unmapped } ∧
    exec (.slverrUnmappedPages2to15 d a) s = .next { s with bus := .slverr .unmapped } ∧
    exec (.slverrRoWrId w) s = .next { s with bus := .slverr .ro } ∧
    exec (.chWrite k .tbctr w) s = .next { s with bus := .slverr .ro } ∧
    exec (.chWrite k .cmpshd w) s = .next { s with bus := .slverr .ro } ∧
    exec (.chWrite k .outst w) s = .next { s with bus := .slverr .ro }

/-- A transaction answered SLVERR leaves the cycle as one with no transaction. R390: "SLVERR is
precise". -/
def Obligations.SlverrIsPrecise : Prop :=
  ∀ (s t : State) (x : CycleInput) (rest : List CycleInput) (c : Cause),
    s.inputs = x :: rest → x.rst = false → x.busReq = true →
    step s = .next t → t.bus = .slverr c →
    step { s with inputs := { x with busReq := false } :: rest } =
      .next { t with bus := .noTransaction }

/-- TB_TICK places or moves the counter as the mode says, and changes only its channel. R194, R196,
R197: tbTick. -/
def Obligations.TbTickCountsByMode : Prop :=
  ∀ (k : Ch) (s : State), ∃ c : Channel,
    exec (.tbTick k) s = .next (s.setChan k c) ∧
    c = { s.chan k with ctr := c.ctr, dir := c.dir, fresh := false, cmpa := c.cmpa, qa := c.qa,
                        qb := c.qb, dtc := c.dtc } ∧
    ((s.chan k).fresh = true →
      ((s.chan k).mode = .up → c.ctr = 0 ∧ c.dir = .up) ∧
      ((s.chan k).mode = .down → c.ctr = (s.chan k).prd ∧ c.dir = .down) ∧
      ((s.chan k).mode = .upDown → c.ctr = 0 ∧ c.dir = .up)) ∧
    ((s.chan k).fresh = false → (s.chan k).mode = .up →
      c.dir = .up ∧ c.ctr.toNat = if (s.chan k).prd.toNat ≤ (s.chan k).ctr.toNat then 0
        else (s.chan k).ctr.toNat + 1) ∧
    ((s.chan k).fresh = false → (s.chan k).mode = .down →
      c.dir = .down ∧ c.ctr.toNat = if (s.chan k).ctr.toNat = 0 then (s.chan k).prd.toNat
        else (s.chan k).ctr.toNat - 1) ∧
    ((s.chan k).fresh = false → (s.chan k).mode = .upDown → (s.chan k).prd = 0 →
      c.dir = .up ∧ c.ctr = 0) ∧
    ((s.chan k).fresh = false → (s.chan k).mode = .upDown → (s.chan k).prd ≠ 0 →
      (s.chan k).dir = .up → (s.chan k).ctr.toNat < (s.chan k).prd.toNat →
      c.ctr.toNat = (s.chan k).ctr.toNat + 1 ∧
        c.dir = if (s.chan k).ctr.toNat + 1 = (s.chan k).prd.toNat then .down else .up) ∧
    ((s.chan k).fresh = false → (s.chan k).mode = .upDown → (s.chan k).prd ≠ 0 →
      (s.chan k).dir = .down → 0 < (s.chan k).ctr.toNat →
      c.ctr.toNat = (s.chan k).ctr.toNat - 1 ∧
        c.dir = if (s.chan k).ctr.toNat - 1 = 0 then .up else .down)

/-- TB_TICK loads CMPA from CMPS at a start and at Zero, and at no other tick. R194, R232: tbTick.
-/
def Obligations.TbTickLoadsShadow : Prop :=
  ∀ (k : Ch) (s : State), ∃ t, exec (.tbTick k) s = .next t ∧
    (t.chan k).cmps = (s.chan k).cmps ∧
    ((s.chan k).fresh = true ∨ (t.chan k).ctr = 0 → (t.chan k).cmpa = (s.chan k).cmps) ∧
    ((s.chan k).fresh = false → (t.chan k).ctr ≠ 0 → (t.chan k).cmpa = (s.chan k).cmpa)

/-- TB_TICK gives each pin the action of the first event that holds and has one. R270 to R274:
tbTick; pin 0 is A, pin 1 is B. -/
def Obligations.TbTickQualifiesByPriority : Prop :=
  ∀ (k : Ch) (s : State), ∃ t, exec (.tbTick k) s = .next t ∧
    ∀ (zro prd cau cad : Nat → Nat) (act : Nat → Nat) (q : Nat → Nat),
      (∀ pin, zro pin = if (t.chan k).ctr = 0 then (s.chan k).aq.toNat / 2 ^ (8 * pin) % 4 else 0) →
      (∀ pin, prd pin = if (t.chan k).ctr = (t.chan k).prd
        then (s.chan k).aq.toNat / 2 ^ (8 * pin + 2) % 4 else 0) →
      (∀ pin, cau pin = if (t.chan k).ctr = (t.chan k).cmpa
        then (s.chan k).aq.toNat / 2 ^ (8 * pin + 4) % 4 else 0) →
      (∀ pin, cad pin = if (t.chan k).ctr = (t.chan k).cmpa
        then (s.chan k).aq.toNat / 2 ^ (8 * pin + 6) % 4 else 0) →
      (∀ pin, act pin = if (t.chan k).dir = .up
        then (if prd pin ≠ 0 then prd pin else if cau pin ≠ 0 then cau pin else zro pin)
        else (if zro pin ≠ 0 then zro pin else if cad pin ≠ 0 then cad pin else prd pin)) →
      q 0 = (s.chan k).qa.toNat → q 1 = (s.chan k).qb.toNat →
      (t.chan k).qa.toNat =
        (if act 0 = 0 then q 0 else if act 0 = 1 then 0 else if act 0 = 2 then 1 else 1 - q 0) ∧
      (t.chan k).qb.toNat =
        (if act 1 = 0 then q 1 else if act 1 = 1 then 0 else if act 1 = 2 then 1 else 1 - q 1)

/-- The age counter restarts when QA changes and else counts up to 65536. R195, R313: tbTick,
halfTick. -/
def Obligations.DeadTimeAgeCounter : Prop :=
  ∀ (k : Ch) (s : State),
    (∃ t, exec (.tbTick k) s = .next t ∧
      (t.chan k).dtc.toNat = if (t.chan k).qa ≠ (s.chan k).qa then 0
        else min ((s.chan k).dtc.toNat + 1) 65536) ∧
    exec (.halfTick k) s = .next (s.setChan k { s.chan k with
      dtc := BitVec.ofNat 17 (min ((s.chan k).dtc.toNat + 1) 65536) })

/-- SAMPLE advances each index and writes the entry it reaches to its channel. R358, R360, R361:
sample. The draws are unconstrained (log entry 3). -/
def Obligations.SampleFeedsEveryPhase : Prop :=
  ∀ s : State, 0 < s.lutn.toNat → s.lutn.toNat ≤ 1024 →
    ∃ (code : Ch → Word) (n : Nat) (ch : PerCh Channel) (idx : PerCh LutIndex)
      (clamp coll : PerCh Bool),
      exec .sample s =
        .next { s with ch := ch, idx := idx, clamp := clamp, coll := coll, draws := n } ∧
      s.draws ≤ n ∧
      ∀ p : Ch,
        (idx.get p).toNat = ((s.idx.get p).toNat + 1) % s.lutn.toNat ∧
        (∀ v, s.lut.readEntry (idx.get p) = some v → code p = v) ∧
        (s.lut.readEntry (idx.get p) = none →
          ∃ m, s.draws ≤ m ∧ m < n ∧ code p = Config.lutDraw m) ∧
        ch.get p = { s.chan p with
          duty := code p
          cmps := (convert (code p) (s.chan p).mode (s.chan p).prd).1
          cmpa := if (s.chan p).immed = true
            then (convert (code p) (s.chan p).mode (s.chan p).prd).1 else (s.chan p).cmpa } ∧
        clamp.get p =
          (s.clamp.get p || decide ((code p).toInt < 0 ∨ 0x10000 < (code p).toInt)) ∧
        coll.get p = (s.coll.get p || decide (s.wrote = some p))

/-- With dead time enabled a channel's two pins are never high together, in either sample. R317 item
1. -/
def Obligations.NoShootThrough : Prop :=
  ∀ (s t : State) (k : Ch), step s = .next t → (t.chan k).dben = true → t.noShootThrough k

/-- With OUTEN = 0 both pins of a channel are 0 in both samples. R318: "With OUTEN = 0 both pins are
0". -/
def Obligations.DisabledOutputsAreLow : Prop :=
  ∀ (s t : State) (k : Ch), step s = .next t → (t.chan k).outen = false →
    t.pinsRise.get k = { a := false, b := false } ∧ t.pinsFall.get k = { a := false, b := false }

/-- The converter multiplies the clamped ratio by its scale and rounds half up, capped at PRD. R237.
-/
def Obligations.ConversionRoundsHalfUp : Prop :=
  ∀ (x : Word) (m : Mode) (p : Tick) (d scale c : Int),
    d = min (max x.toInt 0) 0x10000 →
    scale = (if m = .down then (p.toNat : Int) + 1 else p.toNat) →
    0x20000 * c ≤ 2 * (d * scale) + 0x10000 → 2 * (d * scale) + 0x10000 < 0x20000 * (c + 1) →
    (convert x m p).2 = decide (x.toInt < 0 ∨ 0x10000 < x.toInt) ∧
      ((convert x m p).1.toNat : Int) = min c p.toNat

/-- The converted value is at most PRD, exact at 0 and 1.0, within 1 of round(D × P), and monotonic.
R245, all four items (the spec marks them as derived from R237). -/
def Obligations.ConversionBounds : Prop :=
  ∀ (m : Mode) (p : Tick),
    (∀ x : Word, (convert x m p).1.toNat ≤ p.toNat) ∧
    (convert 0 m p).1 = 0 ∧ (convert 0x10000#32 m p).1 = p ∧
    (∀ x : Word, x.toNat ≤ 0x10000 →
      (convert x m p).1.toNat ≤ (x.toNat * p.toNat + 0x8000) / 0x10000 + 1 ∧
        (x.toNat * p.toNat + 0x8000) / 0x10000 ≤ (convert x m p).1.toNat + 1) ∧
    (∀ x y : Word, x.toInt ≤ y.toInt → (convert x m p).1.toNat ≤ (convert y m p).1.toNat)

/-- N sample steps bring every index back to where it was. R359. -/
def Obligations.SampleStepsAreCyclic : Prop :=
  ∀ s : State, 2 ≤ s.lutn.toNat → s.lutn.toNat ≤ 1024 →
    (∀ p, (s.idx.get p).toNat < s.lutn.toNat) →
    (∃ t, execTimes .sample s.lutn.toNat s = .next t ∧ t.lutn = s.lutn ∧ t.idx = s.idx) ∧
    ∀ n, ∃ t, execTimes .sample n s = .next t ∧ ∀ p, (t.idx.get p).toNat < t.lutn.toNat

/-- The index differences between the phases never change under sample steps. R362, its first
sentence. -/
def Obligations.PhaseSeparationIsKept : Prop :=
  ∀ (s : State) (n : Nat), 2 ≤ s.lutn.toNat → s.lutn.toNat ≤ 1024 →
    (∀ p, (s.idx.get p).toNat < s.lutn.toNat) →
    ∃ t, execTimes .sample n s = .next t ∧
      ((t.idx.get .c1).toNat + s.lutn.toNat - (t.idx.get .c0).toNat) % s.lutn.toNat =
        ((s.idx.get .c1).toNat + s.lutn.toNat - (s.idx.get .c0).toNat) % s.lutn.toNat ∧
      ((t.idx.get .c2).toNat + s.lutn.toNat - (t.idx.get .c0).toNat) % s.lutn.toNat =
        ((s.idx.get .c2).toNat + s.lutn.toNat - (s.idx.get .c0).toNat) % s.lutn.toNat

/-- No step changes the configuration of a channel that runs before and after it. R156:
configuration writes are refused while the channel runs. -/
def Obligations.ConfigurationLockedWhileRunning : Prop :=
  ∀ (s t : State) (k : Ch), step s = .next t → (s.chan k).run = true → (t.chan k).run = true →
    (t.chan k).mode = (s.chan k).mode ∧ (t.chan k).clkdiv = (s.chan k).clkdiv ∧
    (t.chan k).prd = (s.chan k).prd ∧ (t.chan k).immed = (s.chan k).immed ∧
    (t.chan k).aq = (s.chan k).aq ∧ (t.chan k).dben = (s.chan k).dben ∧
    (t.chan k).pol = (s.chan k).pol ∧ (t.chan k).half = (s.chan k).half ∧
    (t.chan k).red = (s.chan k).red ∧ (t.chan k).fed = (s.chan k).fed

/-- No step changes the table or its size while PGEN stays 1. R93, R97 for the entries; R156, R353
for LUTN. -/
def Obligations.TableLockedWhileSequencing : Prop :=
  ∀ s t : State, step s = .next t → s.pgen = true → t.pgen = true →
    t.lutn = s.lutn ∧ ∀ a, t.lut.readByte a = s.lut.readByte a

/-- A sticky flag stays set until an ERR write of its bit or a reset. R36, R393. -/
def Obligations.StickyFlagsStay : Prop :=
  ∀ (s t : State) (x : CycleInput) (rest : List CycleInput) (k : Ch),
    s.inputs = x :: rest → x.rst = false → step s = .next t →
    (s.cfgerr.get k = true → t.cfgerr.get k = false →
      ∃ w, x.transaction = some (.wrErr w) ∧ w.getLsbD k.toNat = true) ∧
    (s.luterr = true → t.luterr = false →
      ∃ w, x.transaction = some (.wrErr w) ∧ w.getLsbD 3 = true) ∧
    (s.clamp.get k = true → t.clamp.get k = false →
      ∃ w, x.transaction = some (.wrErr w) ∧ w.getLsbD (4 + k.toNat) = true) ∧
    (s.coll.get k = true → t.coll.get k = false →
      ∃ w, x.transaction = some (.wrErr w) ∧ w.getLsbD (8 + k.toNat) = true)

/-- RUN, OUTEN and PGEN change only by a GCTL write or a reset. R161: the block never changes GCTL
on its own. -/
def Obligations.GctlChangesOnlyByWrite : Prop :=
  ∀ s t : State, step s = .next t → s.input.rst = false →
    (∀ w, s.input.transaction ≠ some (.wrGctl w)) →
    t.pgen = s.pgen ∧ ∀ k, (t.chan k).run = (s.chan k).run ∧ (t.chan k).outen = (s.chan k).outen

/-- With shadow loading, a running channel's active compare value changes only at a Zero tick. R232,
R233: the glitch-avoidance property. -/
def Obligations.ActiveCompareChangesOnlyAtZero : Prop :=
  ∀ (s t : State) (k : Ch), s.Inv → step s = .next t →
    (s.chan k).run = true → (t.chan k).run = true → (s.chan k).immed = false →
    (t.chan k).cmpa ≠ (s.chan k).cmpa →
    (s.chan k).ec = 0 ∧ (t.chan k).ctr = 0 ∧ (t.chan k).cmpa = (t.chan k).cmps

/-- The counter sequences of the three modes repeat every P + 1, P + 1 and 2·P ticks. R196, R197,
R198. -/
def Obligations.CounterPeriods : Prop :=
  ∀ (k : Ch) (s : State) (n p : Nat), (s.chan k).fresh = true → (s.chan k).prd.toNat = p →
    ∃ t, execTimes (.tbTick k) (n + 1) s = .next t ∧
      ((s.chan k).mode = .up → (t.chan k).dir = .up ∧ (t.chan k).ctr.toNat = n % (p + 1)) ∧
      ((s.chan k).mode = .down → (t.chan k).dir = .down ∧
        (t.chan k).ctr.toNat = p - n % (p + 1)) ∧
      ((s.chan k).mode = .upDown → 0 < p → n % (2 * p) < p →
        (t.chan k).dir = .up ∧ (t.chan k).ctr.toNat = n % (2 * p)) ∧
      ((s.chan k).mode = .upDown → 0 < p → p ≤ n % (2 * p) →
        (t.chan k).dir = .down ∧ (t.chan k).ctr.toNat = 2 * p - n % (2 * p)) ∧
      (p = 0 → (t.chan k).ctr = 0)

/-- QA at each tick under the default profiles, as a function of the counter and its direction.
R278, R279 (its column of QA per tick; the column of high ticks per period follows with the counter
sequences of R198, stated in CounterPeriods). -/
def Obligations.DefaultProfileWaveforms : Prop :=
  ∀ (k : Ch) (s : State) (n : Nat), (s.chan k).fresh = true → (s.chan k).prd ≠ 0 →
    (s.chan k).qa = false → (s.chan k).cmps.toNat ≤ (s.chan k).prd.toNat →
    ∃ t, execTimes (.tbTick k) (n + 1) s = .next t ∧
      ((s.chan k).mode = .up → (s.chan k).aq = 0x0012#16 →
        ((t.chan k).qa = true ↔ (t.chan k).ctr.toNat < (s.chan k).cmps.toNat)) ∧
      ((s.chan k).mode = .down → (s.chan k).aq = 0x0081#16 →
        ((t.chan k).qa = true ↔
          1 ≤ (t.chan k).ctr.toNat ∧ (t.chan k).ctr.toNat ≤ (s.chan k).cmps.toNat)) ∧
      ((s.chan k).mode = .upDown → (s.chan k).aq = 0x0092#16 →
        ((t.chan k).qa = true ↔ if (t.chan k).dir = .up
          then (t.chan k).ctr.toNat < (s.chan k).cmps.toNat
          else (t.chan k).ctr.toNat ≤ (s.chan k).cmps.toNat))

/-- A channel started by a GCTL write takes its first TB tick in the same cycle. R162 (corner
cases), R196, R232. -/
def Obligations.StartTicksInItsCycle : Prop :=
  ∀ (s t : State) (x : CycleInput) (rest : List CycleInput) (w : Word) (k : Ch),
    s.Inv → s.inputs = x :: rest → x.rst = false → x.transaction = some (.wrGctl w) →
    w.getLsbD k.toNat = true → (s.chan k).run = false → step s = .next t →
    (t.chan k).run = true ∧ (t.chan k).fresh = false ∧
    (t.chan k).ctr = (if (s.chan k).mode = .down then (s.chan k).prd else 0) ∧
    (t.chan k).dir = (if (s.chan k).mode = .down then .down else .up) ∧
    (t.chan k).cmpa = (t.chan k).cmps ∧
    (t.chan k).ec.toNat = 2 % (2 * ((s.chan k).clkdiv.toNat + 1))

/-- A bus CMP or DUTY write in a cycle with a sample step is overwritten and flagged. R361. -/
def Obligations.CollisionGoesToSequencer : Prop :=
  ∀ (s t : State) (x : CycleInput) (rest : List CycleInput) (w v : Word) (p : Ch),
    s.inputs = x :: rest → x.rst = false → x.sampleTick = true → s.pgen = true →
    x.transaction = some (.chWrite p .cmp w) ∨ x.transaction = some (.chWrite p .duty w) →
    step s = .next t →
    t.coll.get p = true ∧
    (s.lut.readEntry (BitVec.ofNat 10 (((s.idx.get p).toNat + 1) % s.lutn.toNat)) = some v →
      (t.chan p).duty = v ∧
        (t.chan p).cmps = (convert v (s.chan p).mode (s.chan p).prd).1)

/-- A stopped channel keeps all its state through a cycle with no transaction and no sample step.
R200. -/
def Obligations.StoppedChannelIsFrozen : Prop :=
  ∀ (s t : State) (k : Ch), s.input.rst = false → s.input.busReq = false →
    s.input.sampleTick = false → (s.chan k).run = false → step s = .next t →
    t.chan k = s.chan k ∧ t.pinsRise.get k = (s.chan k).pins ∧
      t.pinsFall.get k = (s.chan k).pins

/-- The start indices are 0, N/3 and 2N/3 rounded to nearest, below N. R352. -/
def Obligations.StartIndicesAreNearest : Prop :=
  ∀ (p : Ch) (n : Nat), 2 ≤ n → n ≤ 1024 →
    startIdx p n < n ∧ 2 * (3 * startIdx p n) < 2 * (p.toNat * n) + 3 ∧
      2 * (p.toNat * n) < 2 * (3 * startIdx p n) + 3

/-- The host's duty codes for ratios in [0, 1] never clamp, NaN and huge ratios do. R248 with R237:
host software (rationals stand for reals, log entry 14). -/
def Obligations.HostDutyCodesAreInRange : Prop :=
  (∀ d : Rat, 0 ≤ d → d ≤ 1 → outOfRange (dutyCode (.real d)) = false) ∧
  outOfRange (dutyCode .nan) = true ∧
  ∀ d : Rat, 32768 ≤ d ∨ d < -32768 → outOfRange (dutyCode (.real d)) = true

/-- The host's configureAction replaces one field of a stopped channel's action table, else it
fails. R280, with the codes and fields of R270 and R276: host software (log entry 14). -/
def Obligations.ConfigureActionSetsOneField : Prop :=
  ∀ (k : Ch) (pin : Pin) (e : Event) (act : Action) (p off c : Nat) (g : Word) (s : State),
    (pin, p) ∈ [(.a, 0), (.b, 8)] →
    (e, off) ∈ [(.zro, 0), (.prd, 2), (.cau, 4), (.cad, 6)] →
    (act, c) ∈ [(.noChange, 0), (.forceLow, 1), (.forceHigh, 2), (.toggle, 3)] →
    ((s.chan k).run = false → s.cfgerr.get k = false →
      ∃ t, (configureAction k pin e act).run g s = .done g t ∧
        (t.chan k).aq.toNat / 2 ^ (p + off) % 4 = c ∧
        ∀ j, j / 2 ≠ (p + off) / 2 → (t.chan k).aq.getLsbD j = (s.chan k).aq.getLsbD j) ∧
    ((s.chan k).run = true ∨ s.cfgerr.get k = true →
      ∃ t, (configureAction k pin e act).run g s = .failed .rejectedWrite g t)

/-- Every line of the program notation presents the transaction, tick and reset it names. R116,
R119: host notation. -/
def Obligations.AssemblerLinesPresentTheirRows : Prop :=
  (∀ (k : Ch) (r : ChReg) (i : LutIndex) (w : Word) (tick : Bool),
    (Line.rd .id tick).input.transaction = some .rdId ∧
    (Line.rd .gctl tick).input.transaction = some .rdGctl ∧
    (Line.rd .err tick).input.transaction = some .rdErr ∧
    (Line.rd .lutn tick).input.transaction = some .rdLutn ∧
    (Line.rd (.phidx k) tick).input.transaction = some (.phidxRead k) ∧
    (Line.rd (.ch k r) tick).input.transaction = some (.chRead k r) ∧
    (Line.rd (.lut i) tick).input.transaction = some (.rdLut i) ∧
    (Line.wr .id w tick).input.transaction = some (.slverrRoWrId w) ∧
    (Line.wr .gctl w tick).input.transaction = some (.wrGctl w) ∧
    (Line.wr .err w tick).input.transaction = some (.wrErr w) ∧
    (Line.wr .lutn w tick).input.transaction = some (.wrLutn w) ∧
    (Line.wr (.phidx k) w tick).input.transaction = some (.phidxWrite k w) ∧
    (Line.wr (.ch k r) w tick).input.transaction = some (.chWrite k r w) ∧
    (Line.wr (.lut i) w tick).input.transaction = some (.wrLut i w)) ∧
  (∀ (r : RegName) (h : Header) (w : Word) (tick : Bool),
    ((Line.rd r tick).input.sampleTick = tick ∧ (Line.rd r tick).input.rst = false) ∧
    ((Line.wr r w tick).input.sampleTick = tick ∧ (Line.wr r w tick).input.rst = false) ∧
    ((Line.bus h w tick).input.transaction = some (decode h w) ∧
      (Line.bus h w tick).input.sampleTick = tick ∧ (Line.bus h w tick).input.rst = false) ∧
    ((Line.idle tick).input.transaction = none ∧
      (Line.idle tick).input.sampleTick = tick ∧ (Line.idle tick).input.rst = false)) ∧
  (Line.rst.input.rst = true ∧ Line.rst.input.transaction = none ∧
    Line.rst.input.sampleTick = false)
end

