-- ==== Sys2Proof/Laws/State.lean ====
section
/-! SUPPORT. One lemma per field of the state per update, true by rfl, so that no proof unfolds a record
update; and the lemmas of per-channel values. -/

namespace Sys2Proof.Machine

/-! ## Per-channel values -/

@[simp] theorem PerCh.get_c0 {α : Type} (t : PerCh α) : t.get .c0 = t.c0 := rfl

@[simp] theorem PerCh.get_c1 {α : Type} (t : PerCh α) : t.get .c1 = t.c1 := rfl

@[simp] theorem PerCh.get_c2 {α : Type} (t : PerCh α) : t.get .c2 = t.c2 := rfl

@[simp] theorem PerCh.get_set_same {α : Type} (t : PerCh α) (k : Ch) (x : α) :
    (t.set k x).get k = x := by
  cases k <;> rfl

theorem PerCh.get_set_ne {α : Type} (t : PerCh α) {k j : Ch} (h : j ≠ k) (x : α) :
    (t.set k x).get j = t.get j := by
  cases k <;> cases j <;> first | rfl | exact absurd rfl h

theorem PerCh.get_set {α : Type} (t : PerCh α) (k j : Ch) (x : α) :
    (t.set k x).get j = if j = k then x else t.get j := by
  cases k <;> cases j <;> rfl

@[simp] theorem PerCh.get_ofFn {α : Type} (f : Ch → α) (k : Ch) : (PerCh.ofFn f).get k = f k := by
  cases k <;> rfl

@[simp] theorem PerCh.get_all {α : Type} (x : α) (k : Ch) : (PerCh.all x).get k = x := by
  cases k <;> rfl

theorem PerCh.ext_get {α : Type} {t u : PerCh α} (h : ∀ k, t.get k = u.get k) : t = u := by
  cases t
  cases u
  have h0 := h .c0
  have h1 := h .c1
  have h2 := h .c2
  simp only [PerCh.get] at h0 h1 h2
  subst h0 h1 h2
  rfl

@[simp] theorem PerCh.set_get {α : Type} (t : PerCh α) (k : Ch) : t.set k (t.get k) = t := by
  cases k <;> rfl

@[simp] theorem PerCh.set_set {α : Type} (t : PerCh α) (k : Ch) (x y : α) :
    (t.set k x).set k y = t.set k y := by
  cases k <;> rfl

/-! ## Fields after an update -/

@[simp] theorem State.respond_ch (s : State) (r : BusResult) : (s.respond r).ch = s.ch := rfl

@[simp] theorem State.respond_pgen (s : State) (r : BusResult) : (s.respond r).pgen = s.pgen := rfl

@[simp] theorem State.respond_lutn (s : State) (r : BusResult) : (s.respond r).lutn = s.lutn := rfl

@[simp] theorem State.respond_idx (s : State) (r : BusResult) : (s.respond r).idx = s.idx := rfl

@[simp] theorem State.respond_cfgerr (s : State) (r : BusResult) :
    (s.respond r).cfgerr = s.cfgerr := rfl

@[simp] theorem State.respond_luterr (s : State) (r : BusResult) :
    (s.respond r).luterr = s.luterr := rfl

@[simp] theorem State.respond_clamp (s : State) (r : BusResult) :
    (s.respond r).clamp = s.clamp := rfl

@[simp] theorem State.respond_coll (s : State) (r : BusResult) : (s.respond r).coll = s.coll := rfl

@[simp] theorem State.respond_lut (s : State) (r : BusResult) : (s.respond r).lut = s.lut := rfl

@[simp] theorem State.respond_bus (s : State) (r : BusResult) : (s.respond r).bus = r := rfl

@[simp] theorem State.respond_pinsRise (s : State) (r : BusResult) :
    (s.respond r).pinsRise = s.pinsRise := rfl

@[simp] theorem State.respond_pinsFall (s : State) (r : BusResult) :
    (s.respond r).pinsFall = s.pinsFall := rfl

@[simp] theorem State.respond_wrote (s : State) (r : BusResult) :
    (s.respond r).wrote = s.wrote := rfl

@[simp] theorem State.respond_inputs (s : State) (r : BusResult) :
    (s.respond r).inputs = s.inputs := rfl

@[simp] theorem State.respond_draws (s : State) (r : BusResult) :
    (s.respond r).draws = s.draws := rfl

@[simp] theorem State.setChan_ch (s : State) (k : Ch) (c : Channel) :
    (s.setChan k c).ch = s.ch.set k c := rfl

@[simp] theorem State.setChan_pgen (s : State) (k : Ch) (c : Channel) :
    (s.setChan k c).pgen = s.pgen := rfl

@[simp] theorem State.setChan_lutn (s : State) (k : Ch) (c : Channel) :
    (s.setChan k c).lutn = s.lutn := rfl

@[simp] theorem State.setChan_idx (s : State) (k : Ch) (c : Channel) :
    (s.setChan k c).idx = s.idx := rfl

@[simp] theorem State.setChan_cfgerr (s : State) (k : Ch) (c : Channel) :
    (s.setChan k c).cfgerr = s.cfgerr := rfl

@[simp] theorem State.setChan_luterr (s : State) (k : Ch) (c : Channel) :
    (s.setChan k c).luterr = s.luterr := rfl

@[simp] theorem State.setChan_clamp (s : State) (k : Ch) (c : Channel) :
    (s.setChan k c).clamp = s.clamp := rfl

@[simp] theorem State.setChan_coll (s : State) (k : Ch) (c : Channel) :
    (s.setChan k c).coll = s.coll := rfl

@[simp] theorem State.setChan_lut (s : State) (k : Ch) (c : Channel) :
    (s.setChan k c).lut = s.lut := rfl

@[simp] theorem State.setChan_bus (s : State) (k : Ch) (c : Channel) :
    (s.setChan k c).bus = s.bus := rfl

@[simp] theorem State.setChan_pinsRise (s : State) (k : Ch) (c : Channel) :
    (s.setChan k c).pinsRise = s.pinsRise := rfl

@[simp] theorem State.setChan_pinsFall (s : State) (k : Ch) (c : Channel) :
    (s.setChan k c).pinsFall = s.pinsFall := rfl

@[simp] theorem State.setChan_wrote (s : State) (k : Ch) (c : Channel) :
    (s.setChan k c).wrote = s.wrote := rfl

@[simp] theorem State.setChan_inputs (s : State) (k : Ch) (c : Channel) :
    (s.setChan k c).inputs = s.inputs := rfl

@[simp] theorem State.setChan_draws (s : State) (k : Ch) (c : Channel) :
    (s.setChan k c).draws = s.draws := rfl

@[simp] theorem State.modChan_ch (s : State) (k : Ch) (f : Channel → Channel) :
    (s.modChan k f).ch = s.ch.set k (f (s.chan k)) := rfl

@[simp] theorem State.modChan_pgen (s : State) (k : Ch) (f : Channel → Channel) :
    (s.modChan k f).pgen = s.pgen := rfl

@[simp] theorem State.modChan_lutn (s : State) (k : Ch) (f : Channel → Channel) :
    (s.modChan k f).lutn = s.lutn := rfl

@[simp] theorem State.modChan_idx (s : State) (k : Ch) (f : Channel → Channel) :
    (s.modChan k f).idx = s.idx := rfl

@[simp] theorem State.modChan_cfgerr (s : State) (k : Ch) (f : Channel → Channel) :
    (s.modChan k f).cfgerr = s.cfgerr := rfl

@[simp] theorem State.modChan_luterr (s : State) (k : Ch) (f : Channel → Channel) :
    (s.modChan k f).luterr = s.luterr := rfl

@[simp] theorem State.modChan_clamp (s : State) (k : Ch) (f : Channel → Channel) :
    (s.modChan k f).clamp = s.clamp := rfl

@[simp] theorem State.modChan_coll (s : State) (k : Ch) (f : Channel → Channel) :
    (s.modChan k f).coll = s.coll := rfl

@[simp] theorem State.modChan_lut (s : State) (k : Ch) (f : Channel → Channel) :
    (s.modChan k f).lut = s.lut := rfl

@[simp] theorem State.modChan_bus (s : State) (k : Ch) (f : Channel → Channel) :
    (s.modChan k f).bus = s.bus := rfl

@[simp] theorem State.modChan_pinsRise (s : State) (k : Ch) (f : Channel → Channel) :
    (s.modChan k f).pinsRise = s.pinsRise := rfl

@[simp] theorem State.modChan_pinsFall (s : State) (k : Ch) (f : Channel → Channel) :
    (s.modChan k f).pinsFall = s.pinsFall := rfl

@[simp] theorem State.modChan_wrote (s : State) (k : Ch) (f : Channel → Channel) :
    (s.modChan k f).wrote = s.wrote := rfl

@[simp] theorem State.modChan_inputs (s : State) (k : Ch) (f : Channel → Channel) :
    (s.modChan k f).inputs = s.inputs := rfl

@[simp] theorem State.modChan_draws (s : State) (k : Ch) (f : Channel → Channel) :
    (s.modChan k f).draws = s.draws := rfl

@[simp] theorem State.setCfgerr_ch (s : State) (k : Ch) : (s.setCfgerr k).ch = s.ch := rfl

@[simp] theorem State.setCfgerr_pgen (s : State) (k : Ch) : (s.setCfgerr k).pgen = s.pgen := rfl

@[simp] theorem State.setCfgerr_lutn (s : State) (k : Ch) : (s.setCfgerr k).lutn = s.lutn := rfl

@[simp] theorem State.setCfgerr_idx (s : State) (k : Ch) : (s.setCfgerr k).idx = s.idx := rfl

@[simp] theorem State.setCfgerr_cfgerr (s : State) (k : Ch) :
    (s.setCfgerr k).cfgerr = s.cfgerr.set k true := rfl

@[simp] theorem State.setCfgerr_luterr (s : State) (k : Ch) :
    (s.setCfgerr k).luterr = s.luterr := rfl

@[simp] theorem State.setCfgerr_clamp (s : State) (k : Ch) : (s.setCfgerr k).clamp = s.clamp := rfl

@[simp] theorem State.setCfgerr_coll (s : State) (k : Ch) : (s.setCfgerr k).coll = s.coll := rfl

@[simp] theorem State.setCfgerr_lut (s : State) (k : Ch) : (s.setCfgerr k).lut = s.lut := rfl

@[simp] theorem State.setCfgerr_bus (s : State) (k : Ch) : (s.setCfgerr k).bus = s.bus := rfl

@[simp] theorem State.setCfgerr_pinsRise (s : State) (k : Ch) :
    (s.setCfgerr k).pinsRise = s.pinsRise := rfl

@[simp] theorem State.setCfgerr_pinsFall (s : State) (k : Ch) :
    (s.setCfgerr k).pinsFall = s.pinsFall := rfl

@[simp] theorem State.setCfgerr_wrote (s : State) (k : Ch) : (s.setCfgerr k).wrote = s.wrote := rfl

@[simp] theorem State.setCfgerr_inputs (s : State) (k : Ch) :
    (s.setCfgerr k).inputs = s.inputs := rfl

@[simp] theorem State.setCfgerr_draws (s : State) (k : Ch) : (s.setCfgerr k).draws = s.draws := rfl

@[simp] theorem State.setLuterr_ch (s : State) : (s.setLuterr).ch = s.ch := rfl

@[simp] theorem State.setLuterr_pgen (s : State) : (s.setLuterr).pgen = s.pgen := rfl

@[simp] theorem State.setLuterr_lutn (s : State) : (s.setLuterr).lutn = s.lutn := rfl

@[simp] theorem State.setLuterr_idx (s : State) : (s.setLuterr).idx = s.idx := rfl

@[simp] theorem State.setLuterr_cfgerr (s : State) : (s.setLuterr).cfgerr = s.cfgerr := rfl

@[simp] theorem State.setLuterr_luterr (s : State) : (s.setLuterr).luterr = true := rfl

@[simp] theorem State.setLuterr_clamp (s : State) : (s.setLuterr).clamp = s.clamp := rfl

@[simp] theorem State.setLuterr_coll (s : State) : (s.setLuterr).coll = s.coll := rfl

@[simp] theorem State.setLuterr_lut (s : State) : (s.setLuterr).lut = s.lut := rfl

@[simp] theorem State.setLuterr_bus (s : State) : (s.setLuterr).bus = s.bus := rfl

@[simp] theorem State.setLuterr_pinsRise (s : State) : (s.setLuterr).pinsRise = s.pinsRise := rfl

@[simp] theorem State.setLuterr_pinsFall (s : State) : (s.setLuterr).pinsFall = s.pinsFall := rfl

@[simp] theorem State.setLuterr_wrote (s : State) : (s.setLuterr).wrote = s.wrote := rfl

@[simp] theorem State.setLuterr_inputs (s : State) : (s.setLuterr).inputs = s.inputs := rfl

@[simp] theorem State.setLuterr_draws (s : State) : (s.setLuterr).draws = s.draws := rfl

@[simp] theorem State.setClamp_ch (s : State) (k : Ch) : (s.setClamp k).ch = s.ch := rfl

@[simp] theorem State.setClamp_pgen (s : State) (k : Ch) : (s.setClamp k).pgen = s.pgen := rfl

@[simp] theorem State.setClamp_lutn (s : State) (k : Ch) : (s.setClamp k).lutn = s.lutn := rfl

@[simp] theorem State.setClamp_idx (s : State) (k : Ch) : (s.setClamp k).idx = s.idx := rfl

@[simp] theorem State.setClamp_cfgerr (s : State) (k : Ch) : (s.setClamp k).cfgerr = s.cfgerr := rfl

@[simp] theorem State.setClamp_luterr (s : State) (k : Ch) : (s.setClamp k).luterr = s.luterr := rfl

@[simp] theorem State.setClamp_clamp (s : State) (k : Ch) :
    (s.setClamp k).clamp = s.clamp.set k true := rfl

@[simp] theorem State.setClamp_coll (s : State) (k : Ch) : (s.setClamp k).coll = s.coll := rfl

@[simp] theorem State.setClamp_lut (s : State) (k : Ch) : (s.setClamp k).lut = s.lut := rfl

@[simp] theorem State.setClamp_bus (s : State) (k : Ch) : (s.setClamp k).bus = s.bus := rfl

@[simp] theorem State.setClamp_pinsRise (s : State) (k : Ch) :
    (s.setClamp k).pinsRise = s.pinsRise := rfl

@[simp] theorem State.setClamp_pinsFall (s : State) (k : Ch) :
    (s.setClamp k).pinsFall = s.pinsFall := rfl

@[simp] theorem State.setClamp_wrote (s : State) (k : Ch) : (s.setClamp k).wrote = s.wrote := rfl

@[simp] theorem State.setClamp_inputs (s : State) (k : Ch) : (s.setClamp k).inputs = s.inputs := rfl

@[simp] theorem State.setClamp_draws (s : State) (k : Ch) : (s.setClamp k).draws = s.draws := rfl

@[simp] theorem State.setColl_ch (s : State) (k : Ch) : (s.setColl k).ch = s.ch := rfl

@[simp] theorem State.setColl_pgen (s : State) (k : Ch) : (s.setColl k).pgen = s.pgen := rfl

@[simp] theorem State.setColl_lutn (s : State) (k : Ch) : (s.setColl k).lutn = s.lutn := rfl

@[simp] theorem State.setColl_idx (s : State) (k : Ch) : (s.setColl k).idx = s.idx := rfl

@[simp] theorem State.setColl_cfgerr (s : State) (k : Ch) : (s.setColl k).cfgerr = s.cfgerr := rfl

@[simp] theorem State.setColl_luterr (s : State) (k : Ch) : (s.setColl k).luterr = s.luterr := rfl

@[simp] theorem State.setColl_clamp (s : State) (k : Ch) : (s.setColl k).clamp = s.clamp := rfl

@[simp] theorem State.setColl_coll (s : State) (k : Ch) :
    (s.setColl k).coll = s.coll.set k true := rfl

@[simp] theorem State.setColl_lut (s : State) (k : Ch) : (s.setColl k).lut = s.lut := rfl

@[simp] theorem State.setColl_bus (s : State) (k : Ch) : (s.setColl k).bus = s.bus := rfl

@[simp] theorem State.setColl_pinsRise (s : State) (k : Ch) :
    (s.setColl k).pinsRise = s.pinsRise := rfl

@[simp] theorem State.setColl_pinsFall (s : State) (k : Ch) :
    (s.setColl k).pinsFall = s.pinsFall := rfl

@[simp] theorem State.setColl_wrote (s : State) (k : Ch) : (s.setColl k).wrote = s.wrote := rfl

@[simp] theorem State.setColl_inputs (s : State) (k : Ch) : (s.setColl k).inputs = s.inputs := rfl

@[simp] theorem State.setColl_draws (s : State) (k : Ch) : (s.setColl k).draws = s.draws := rfl

@[simp] theorem State.clearFlags_ch (s : State) (w : Word) : (s.clearFlags w).ch = s.ch := rfl

@[simp] theorem State.clearFlags_pgen (s : State) (w : Word) : (s.clearFlags w).pgen = s.pgen := rfl

@[simp] theorem State.clearFlags_lutn (s : State) (w : Word) : (s.clearFlags w).lutn = s.lutn := rfl

@[simp] theorem State.clearFlags_idx (s : State) (w : Word) : (s.clearFlags w).idx = s.idx := rfl

@[simp] theorem State.clearFlags_cfgerr (s : State) (w : Word) :
    (s.clearFlags w).cfgerr = clearBits s.cfgerr w 0 := rfl

@[simp] theorem State.clearFlags_luterr (s : State) (w : Word) :
    (s.clearFlags w).luterr = (s.luterr && !w.getLsbD 3) := rfl

@[simp] theorem State.clearFlags_clamp (s : State) (w : Word) :
    (s.clearFlags w).clamp = clearBits s.clamp w 4 := rfl

@[simp] theorem State.clearFlags_coll (s : State) (w : Word) :
    (s.clearFlags w).coll = clearBits s.coll w 8 := rfl

@[simp] theorem State.clearFlags_lut (s : State) (w : Word) : (s.clearFlags w).lut = s.lut := rfl

@[simp] theorem State.clearFlags_bus (s : State) (w : Word) : (s.clearFlags w).bus = s.bus := rfl

@[simp] theorem State.clearFlags_pinsRise (s : State) (w : Word) :
    (s.clearFlags w).pinsRise = s.pinsRise := rfl

@[simp] theorem State.clearFlags_pinsFall (s : State) (w : Word) :
    (s.clearFlags w).pinsFall = s.pinsFall := rfl

@[simp] theorem State.clearFlags_wrote (s : State) (w : Word) :
    (s.clearFlags w).wrote = s.wrote := rfl

@[simp] theorem State.clearFlags_inputs (s : State) (w : Word) :
    (s.clearFlags w).inputs = s.inputs := rfl

@[simp] theorem State.clearFlags_draws (s : State) (w : Word) :
    (s.clearFlags w).draws = s.draws := rfl

@[simp] theorem State.lutWrite_ch (s : State) (i : LutIndex) (v : Word) :
    (s.lutWrite i v).ch = s.ch := rfl

@[simp] theorem State.lutWrite_pgen (s : State) (i : LutIndex) (v : Word) :
    (s.lutWrite i v).pgen = s.pgen := rfl

@[simp] theorem State.lutWrite_lutn (s : State) (i : LutIndex) (v : Word) :
    (s.lutWrite i v).lutn = s.lutn := rfl

@[simp] theorem State.lutWrite_idx (s : State) (i : LutIndex) (v : Word) :
    (s.lutWrite i v).idx = s.idx := rfl

@[simp] theorem State.lutWrite_cfgerr (s : State) (i : LutIndex) (v : Word) :
    (s.lutWrite i v).cfgerr = s.cfgerr := rfl

@[simp] theorem State.lutWrite_luterr (s : State) (i : LutIndex) (v : Word) :
    (s.lutWrite i v).luterr = s.luterr := rfl

@[simp] theorem State.lutWrite_clamp (s : State) (i : LutIndex) (v : Word) :
    (s.lutWrite i v).clamp = s.clamp := rfl

@[simp] theorem State.lutWrite_coll (s : State) (i : LutIndex) (v : Word) :
    (s.lutWrite i v).coll = s.coll := rfl

@[simp] theorem State.lutWrite_lut (s : State) (i : LutIndex) (v : Word) :
    (s.lutWrite i v).lut = s.lut.writeEntry i v := rfl

@[simp] theorem State.lutWrite_bus (s : State) (i : LutIndex) (v : Word) :
    (s.lutWrite i v).bus = s.bus := rfl

@[simp] theorem State.lutWrite_pinsRise (s : State) (i : LutIndex) (v : Word) :
    (s.lutWrite i v).pinsRise = s.pinsRise := rfl

@[simp] theorem State.lutWrite_pinsFall (s : State) (i : LutIndex) (v : Word) :
    (s.lutWrite i v).pinsFall = s.pinsFall := rfl

@[simp] theorem State.lutWrite_wrote (s : State) (i : LutIndex) (v : Word) :
    (s.lutWrite i v).wrote = s.wrote := rfl

@[simp] theorem State.lutWrite_inputs (s : State) (i : LutIndex) (v : Word) :
    (s.lutWrite i v).inputs = s.inputs := rfl

@[simp] theorem State.lutWrite_draws (s : State) (i : LutIndex) (v : Word) :
    (s.lutWrite i v).draws = s.draws := rfl

@[simp] theorem State.countDraw_ch (s : State) : (s.countDraw).ch = s.ch := rfl

@[simp] theorem State.countDraw_pgen (s : State) : (s.countDraw).pgen = s.pgen := rfl

@[simp] theorem State.countDraw_lutn (s : State) : (s.countDraw).lutn = s.lutn := rfl

@[simp] theorem State.countDraw_idx (s : State) : (s.countDraw).idx = s.idx := rfl

@[simp] theorem State.countDraw_cfgerr (s : State) : (s.countDraw).cfgerr = s.cfgerr := rfl

@[simp] theorem State.countDraw_luterr (s : State) : (s.countDraw).luterr = s.luterr := rfl

@[simp] theorem State.countDraw_clamp (s : State) : (s.countDraw).clamp = s.clamp := rfl

@[simp] theorem State.countDraw_coll (s : State) : (s.countDraw).coll = s.coll := rfl

@[simp] theorem State.countDraw_lut (s : State) : (s.countDraw).lut = s.lut := rfl

@[simp] theorem State.countDraw_bus (s : State) : (s.countDraw).bus = s.bus := rfl

@[simp] theorem State.countDraw_pinsRise (s : State) : (s.countDraw).pinsRise = s.pinsRise := rfl

@[simp] theorem State.countDraw_pinsFall (s : State) : (s.countDraw).pinsFall = s.pinsFall := rfl

@[simp] theorem State.countDraw_wrote (s : State) : (s.countDraw).wrote = s.wrote := rfl

@[simp] theorem State.countDraw_inputs (s : State) : (s.countDraw).inputs = s.inputs := rfl

@[simp] theorem State.countDraw_draws (s : State) : (s.countDraw).draws = s.draws + 1 := rfl

@[simp] theorem State.markWrote_ch (s : State) (k : Ch) : (s.markWrote k).ch = s.ch := rfl

@[simp] theorem State.markWrote_pgen (s : State) (k : Ch) : (s.markWrote k).pgen = s.pgen := rfl

@[simp] theorem State.markWrote_lutn (s : State) (k : Ch) : (s.markWrote k).lutn = s.lutn := rfl

@[simp] theorem State.markWrote_idx (s : State) (k : Ch) : (s.markWrote k).idx = s.idx := rfl

@[simp] theorem State.markWrote_cfgerr (s : State) (k : Ch) :
    (s.markWrote k).cfgerr = s.cfgerr := rfl

@[simp] theorem State.markWrote_luterr (s : State) (k : Ch) :
    (s.markWrote k).luterr = s.luterr := rfl

@[simp] theorem State.markWrote_clamp (s : State) (k : Ch) : (s.markWrote k).clamp = s.clamp := rfl

@[simp] theorem State.markWrote_coll (s : State) (k : Ch) : (s.markWrote k).coll = s.coll := rfl

@[simp] theorem State.markWrote_lut (s : State) (k : Ch) : (s.markWrote k).lut = s.lut := rfl

@[simp] theorem State.markWrote_bus (s : State) (k : Ch) : (s.markWrote k).bus = s.bus := rfl

@[simp] theorem State.markWrote_pinsRise (s : State) (k : Ch) :
    (s.markWrote k).pinsRise = s.pinsRise := rfl

@[simp] theorem State.markWrote_pinsFall (s : State) (k : Ch) :
    (s.markWrote k).pinsFall = s.pinsFall := rfl

@[simp] theorem State.markWrote_wrote (s : State) (k : Ch) : (s.markWrote k).wrote = some k := rfl

@[simp] theorem State.markWrote_inputs (s : State) (k : Ch) :
    (s.markWrote k).inputs = s.inputs := rfl

@[simp] theorem State.markWrote_draws (s : State) (k : Ch) : (s.markWrote k).draws = s.draws := rfl

@[simp] theorem State.setLutn_ch (s : State) (n : BitVec 11) : (State.setLutn n s).ch = s.ch := rfl

@[simp] theorem State.setLutn_pgen (s : State) (n : BitVec 11) :
    (State.setLutn n s).pgen = s.pgen := rfl

@[simp] theorem State.setLutn_lutn (s : State) (n : BitVec 11) : (State.setLutn n s).lutn = n := rfl

@[simp] theorem State.setLutn_idx (s : State) (n : BitVec 11) :
    (State.setLutn n s).idx = PerCh.ofFn fun p => BitVec.ofNat 10 (startIdx p n.toNat) := rfl

@[simp] theorem State.setLutn_cfgerr (s : State) (n : BitVec 11) :
    (State.setLutn n s).cfgerr = s.cfgerr := rfl

@[simp] theorem State.setLutn_luterr (s : State) (n : BitVec 11) :
    (State.setLutn n s).luterr = s.luterr := rfl

@[simp] theorem State.setLutn_clamp (s : State) (n : BitVec 11) :
    (State.setLutn n s).clamp = s.clamp := rfl

@[simp] theorem State.setLutn_coll (s : State) (n : BitVec 11) :
    (State.setLutn n s).coll = s.coll := rfl

@[simp] theorem State.setLutn_lut (s : State) (n : BitVec 11) :
    (State.setLutn n s).lut = s.lut := rfl

@[simp] theorem State.setLutn_bus (s : State) (n : BitVec 11) :
    (State.setLutn n s).bus = s.bus := rfl

@[simp] theorem State.setLutn_pinsRise (s : State) (n : BitVec 11) :
    (State.setLutn n s).pinsRise = s.pinsRise := rfl

@[simp] theorem State.setLutn_pinsFall (s : State) (n : BitVec 11) :
    (State.setLutn n s).pinsFall = s.pinsFall := rfl

@[simp] theorem State.setLutn_wrote (s : State) (n : BitVec 11) :
    (State.setLutn n s).wrote = s.wrote := rfl

@[simp] theorem State.setLutn_inputs (s : State) (n : BitVec 11) :
    (State.setLutn n s).inputs = s.inputs := rfl

@[simp] theorem State.setLutn_draws (s : State) (n : BitVec 11) :
    (State.setLutn n s).draws = s.draws := rfl

@[simp] theorem State.setIdx_ch (s : State) (p : Ch) (i : LutIndex) :
    (State.setIdx p i s).ch = s.ch := rfl

@[simp] theorem State.setIdx_pgen (s : State) (p : Ch) (i : LutIndex) :
    (State.setIdx p i s).pgen = s.pgen := rfl

@[simp] theorem State.setIdx_lutn (s : State) (p : Ch) (i : LutIndex) :
    (State.setIdx p i s).lutn = s.lutn := rfl

@[simp] theorem State.setIdx_idx (s : State) (p : Ch) (i : LutIndex) :
    (State.setIdx p i s).idx = s.idx.set p i := rfl

@[simp] theorem State.setIdx_cfgerr (s : State) (p : Ch) (i : LutIndex) :
    (State.setIdx p i s).cfgerr = s.cfgerr := rfl

@[simp] theorem State.setIdx_luterr (s : State) (p : Ch) (i : LutIndex) :
    (State.setIdx p i s).luterr = s.luterr := rfl

@[simp] theorem State.setIdx_clamp (s : State) (p : Ch) (i : LutIndex) :
    (State.setIdx p i s).clamp = s.clamp := rfl

@[simp] theorem State.setIdx_coll (s : State) (p : Ch) (i : LutIndex) :
    (State.setIdx p i s).coll = s.coll := rfl

@[simp] theorem State.setIdx_lut (s : State) (p : Ch) (i : LutIndex) :
    (State.setIdx p i s).lut = s.lut := rfl

@[simp] theorem State.setIdx_bus (s : State) (p : Ch) (i : LutIndex) :
    (State.setIdx p i s).bus = s.bus := rfl

@[simp] theorem State.setIdx_pinsRise (s : State) (p : Ch) (i : LutIndex) :
    (State.setIdx p i s).pinsRise = s.pinsRise := rfl

@[simp] theorem State.setIdx_pinsFall (s : State) (p : Ch) (i : LutIndex) :
    (State.setIdx p i s).pinsFall = s.pinsFall := rfl

@[simp] theorem State.setIdx_wrote (s : State) (p : Ch) (i : LutIndex) :
    (State.setIdx p i s).wrote = s.wrote := rfl

@[simp] theorem State.setIdx_inputs (s : State) (p : Ch) (i : LutIndex) :
    (State.setIdx p i s).inputs = s.inputs := rfl

@[simp] theorem State.setIdx_draws (s : State) (p : Ch) (i : LutIndex) :
    (State.setIdx p i s).draws = s.draws := rfl

@[simp] theorem State.advance_ch (s : State) (p : Ch) : (s.advance p).ch = s.ch := rfl

@[simp] theorem State.advance_pgen (s : State) (p : Ch) : (s.advance p).pgen = s.pgen := rfl

@[simp] theorem State.advance_lutn (s : State) (p : Ch) : (s.advance p).lutn = s.lutn := rfl

@[simp] theorem State.advance_idx (s : State) (p : Ch) :
    (s.advance p).idx = s.idx.set p (nextIdx (s.idx.get p) s.lutn) := rfl

@[simp] theorem State.advance_cfgerr (s : State) (p : Ch) : (s.advance p).cfgerr = s.cfgerr := rfl

@[simp] theorem State.advance_luterr (s : State) (p : Ch) : (s.advance p).luterr = s.luterr := rfl

@[simp] theorem State.advance_clamp (s : State) (p : Ch) : (s.advance p).clamp = s.clamp := rfl

@[simp] theorem State.advance_coll (s : State) (p : Ch) : (s.advance p).coll = s.coll := rfl

@[simp] theorem State.advance_lut (s : State) (p : Ch) : (s.advance p).lut = s.lut := rfl

@[simp] theorem State.advance_bus (s : State) (p : Ch) : (s.advance p).bus = s.bus := rfl

@[simp] theorem State.advance_pinsRise (s : State) (p : Ch) :
    (s.advance p).pinsRise = s.pinsRise := rfl

@[simp] theorem State.advance_pinsFall (s : State) (p : Ch) :
    (s.advance p).pinsFall = s.pinsFall := rfl

@[simp] theorem State.advance_wrote (s : State) (p : Ch) : (s.advance p).wrote = s.wrote := rfl

@[simp] theorem State.advance_inputs (s : State) (p : Ch) : (s.advance p).inputs = s.inputs := rfl

@[simp] theorem State.advance_draws (s : State) (p : Ch) : (s.advance p).draws = s.draws := rfl

@[simp] theorem State.gctlWrite_ch (s : State) (w : Word) :
    (s.gctlWrite w).ch = PerCh.ofFn (gctlChannel w s) := rfl

@[simp] theorem State.gctlWrite_pgen (s : State) (w : Word) :
    (s.gctlWrite w).pgen = gctlPgen w := rfl

@[simp] theorem State.gctlWrite_lutn (s : State) (w : Word) : (s.gctlWrite w).lutn = s.lutn := rfl

@[simp] theorem State.gctlWrite_idx (s : State) (w : Word) : (s.gctlWrite w).idx = s.idx := rfl

@[simp] theorem State.gctlWrite_cfgerr (s : State) (w : Word) :
    (s.gctlWrite w).cfgerr = s.cfgerr := rfl

@[simp] theorem State.gctlWrite_luterr (s : State) (w : Word) :
    (s.gctlWrite w).luterr = s.luterr := rfl

@[simp] theorem State.gctlWrite_clamp (s : State) (w : Word) :
    (s.gctlWrite w).clamp = s.clamp := rfl

@[simp] theorem State.gctlWrite_coll (s : State) (w : Word) : (s.gctlWrite w).coll = s.coll := rfl

@[simp] theorem State.gctlWrite_lut (s : State) (w : Word) : (s.gctlWrite w).lut = s.lut := rfl

@[simp] theorem State.gctlWrite_bus (s : State) (w : Word) : (s.gctlWrite w).bus = s.bus := rfl

@[simp] theorem State.gctlWrite_pinsRise (s : State) (w : Word) :
    (s.gctlWrite w).pinsRise = s.pinsRise := rfl

@[simp] theorem State.gctlWrite_pinsFall (s : State) (w : Word) :
    (s.gctlWrite w).pinsFall = s.pinsFall := rfl

@[simp] theorem State.gctlWrite_wrote (s : State) (w : Word) :
    (s.gctlWrite w).wrote = s.wrote := rfl

@[simp] theorem State.gctlWrite_inputs (s : State) (w : Word) :
    (s.gctlWrite w).inputs = s.inputs := rfl

@[simp] theorem State.gctlWrite_draws (s : State) (w : Word) :
    (s.gctlWrite w).draws = s.draws := rfl

@[simp] theorem State.beginCycle_ch (s : State) : (s.beginCycle).ch = s.ch := rfl

@[simp] theorem State.beginCycle_pgen (s : State) : (s.beginCycle).pgen = s.pgen := rfl

@[simp] theorem State.beginCycle_lutn (s : State) : (s.beginCycle).lutn = s.lutn := rfl

@[simp] theorem State.beginCycle_idx (s : State) : (s.beginCycle).idx = s.idx := rfl

@[simp] theorem State.beginCycle_cfgerr (s : State) : (s.beginCycle).cfgerr = s.cfgerr := rfl

@[simp] theorem State.beginCycle_luterr (s : State) : (s.beginCycle).luterr = s.luterr := rfl

@[simp] theorem State.beginCycle_clamp (s : State) : (s.beginCycle).clamp = s.clamp := rfl

@[simp] theorem State.beginCycle_coll (s : State) : (s.beginCycle).coll = s.coll := rfl

@[simp] theorem State.beginCycle_lut (s : State) : (s.beginCycle).lut = s.lut := rfl

@[simp] theorem State.beginCycle_bus (s : State) : (s.beginCycle).bus = .noTransaction := rfl

@[simp] theorem State.beginCycle_pinsRise (s : State) : (s.beginCycle).pinsRise = s.pinsRise := rfl

@[simp] theorem State.beginCycle_pinsFall (s : State) : (s.beginCycle).pinsFall = s.pinsFall := rfl

@[simp] theorem State.beginCycle_wrote (s : State) : (s.beginCycle).wrote = none := rfl

@[simp] theorem State.beginCycle_inputs (s : State) : (s.beginCycle).inputs = s.inputs.tail := rfl

@[simp] theorem State.beginCycle_draws (s : State) : (s.beginCycle).draws = s.draws := rfl

/-! ## A channel after an update -/

@[simp] theorem State.respond_chan (s : State) (r : BusResult) (j : Ch) :
    (s.respond r).chan j = s.chan j := rfl

@[simp] theorem State.setCfgerr_chan (s : State) (k : Ch) (j : Ch) :
    (s.setCfgerr k).chan j = s.chan j := rfl

@[simp] theorem State.setLuterr_chan (s : State) (j : Ch) : (s.setLuterr).chan j = s.chan j := rfl

@[simp] theorem State.setClamp_chan (s : State) (k : Ch) (j : Ch) :
    (s.setClamp k).chan j = s.chan j := rfl

@[simp] theorem State.setColl_chan (s : State) (k : Ch) (j : Ch) :
    (s.setColl k).chan j = s.chan j := rfl

@[simp] theorem State.clearFlags_chan (s : State) (w : Word) (j : Ch) :
    (s.clearFlags w).chan j = s.chan j := rfl

@[simp] theorem State.lutWrite_chan (s : State) (i : LutIndex) (v : Word) (j : Ch) :
    (s.lutWrite i v).chan j = s.chan j := rfl

@[simp] theorem State.countDraw_chan (s : State) (j : Ch) : (s.countDraw).chan j = s.chan j := rfl

@[simp] theorem State.markWrote_chan (s : State) (k : Ch) (j : Ch) :
    (s.markWrote k).chan j = s.chan j := rfl

@[simp] theorem State.setLutn_chan (s : State) (n : BitVec 11) (j : Ch) :
    (State.setLutn n s).chan j = s.chan j := rfl

@[simp] theorem State.setIdx_chan (s : State) (p : Ch) (i : LutIndex) (j : Ch) :
    (State.setIdx p i s).chan j = s.chan j := rfl

@[simp] theorem State.advance_chan (s : State) (p : Ch) (j : Ch) :
    (s.advance p).chan j = s.chan j := rfl

@[simp] theorem State.beginCycle_chan (s : State) (j : Ch) : (s.beginCycle).chan j = s.chan j := rfl

@[simp] theorem State.setChan_chan_same (s : State) (k : Ch) (c : Channel) :
    (s.setChan k c).chan k = c := by
  cases k <;> rfl

theorem State.setChan_chan_ne (s : State) {k j : Ch} (h : j ≠ k) (c : Channel) :
    (s.setChan k c).chan j = s.chan j := PerCh.get_set_ne s.ch h c

@[simp] theorem State.modChan_chan_same (s : State) (k : Ch) (f : Channel → Channel) :
    (s.modChan k f).chan k = f (s.chan k) := by
  cases k <;> rfl

theorem State.modChan_chan_ne (s : State) {k j : Ch} (h : j ≠ k) (f : Channel → Channel) :
    (s.modChan k f).chan j = s.chan j := PerCh.get_set_ne s.ch h _

theorem State.modChan_chan (s : State) (k j : Ch) (f : Channel → Channel) :
    (s.modChan k f).chan j = if j = k then f (s.chan k) else s.chan j := by
  cases k <;> cases j <;> rfl

@[simp] theorem State.gctlWrite_chan (s : State) (w : Word) (k : Ch) :
    (s.gctlWrite w).chan k = gctlChannel w s k := by
  cases k <;> rfl

@[simp] theorem State.reset_chan (k : Ch) : State.reset.chan k = Channel.reset := by
  cases k <;> rfl

/-! ## Conditional flag updates -/

theorem State.clampIf_clamp (s : State) (k : Ch) (b : Bool) :
    (s.clampIf k b).clamp = s.clamp.set k (s.clamp.get k || b) := by
  cases b <;> simp [State.clampIf]

theorem State.collide_coll (s : State) (p : Ch) :
    (s.collide p).coll = s.coll.set p (s.coll.get p || decide (s.wrote = some p)) := by
  by_cases h : s.wrote = some p <;> simp [State.collide, h]

@[simp] theorem State.clampIf_ch (s : State) (k : Ch) (b : Bool) : (s.clampIf k b).ch = s.ch := by
  cases b <;> rfl

@[simp] theorem State.collide_ch (s : State) (p : Ch) : (s.collide p).ch = s.ch := by
  by_cases h : s.wrote = some p <;> simp [State.collide, h]

@[simp] theorem State.clampIf_pgen (s : State) (k : Ch) (b : Bool) : (s.clampIf k b).pgen = s.pgen := by
  cases b <;> rfl

@[simp] theorem State.collide_pgen (s : State) (p : Ch) : (s.collide p).pgen = s.pgen := by
  by_cases h : s.wrote = some p <;> simp [State.collide, h]

@[simp] theorem State.clampIf_lutn (s : State) (k : Ch) (b : Bool) : (s.clampIf k b).lutn = s.lutn := by
  cases b <;> rfl

@[simp] theorem State.collide_lutn (s : State) (p : Ch) : (s.collide p).lutn = s.lutn := by
  by_cases h : s.wrote = some p <;> simp [State.collide, h]

@[simp] theorem State.clampIf_idx (s : State) (k : Ch) (b : Bool) : (s.clampIf k b).idx = s.idx := by
  cases b <;> rfl

@[simp] theorem State.collide_idx (s : State) (p : Ch) : (s.collide p).idx = s.idx := by
  by_cases h : s.wrote = some p <;> simp [State.collide, h]

@[simp] theorem State.clampIf_cfgerr (s : State) (k : Ch) (b : Bool) : (s.clampIf k b).cfgerr = s.cfgerr := by
  cases b <;> rfl

@[simp] theorem State.collide_cfgerr (s : State) (p : Ch) : (s.collide p).cfgerr = s.cfgerr := by
  by_cases h : s.wrote = some p <;> simp [State.collide, h]

@[simp] theorem State.clampIf_luterr (s : State) (k : Ch) (b : Bool) : (s.clampIf k b).luterr = s.luterr := by
  cases b <;> rfl

@[simp] theorem State.collide_luterr (s : State) (p : Ch) : (s.collide p).luterr = s.luterr := by
  by_cases h : s.wrote = some p <;> simp [State.collide, h]

@[simp] theorem State.collide_clamp (s : State) (p : Ch) : (s.collide p).clamp = s.clamp := by
  by_cases h : s.wrote = some p <;> simp [State.collide, h]

@[simp] theorem State.clampIf_coll (s : State) (k : Ch) (b : Bool) : (s.clampIf k b).coll = s.coll := by
  cases b <;> rfl

@[simp] theorem State.clampIf_lut (s : State) (k : Ch) (b : Bool) : (s.clampIf k b).lut = s.lut := by
  cases b <;> rfl

@[simp] theorem State.collide_lut (s : State) (p : Ch) : (s.collide p).lut = s.lut := by
  by_cases h : s.wrote = some p <;> simp [State.collide, h]

@[simp] theorem State.clampIf_bus (s : State) (k : Ch) (b : Bool) : (s.clampIf k b).bus = s.bus := by
  cases b <;> rfl

@[simp] theorem State.collide_bus (s : State) (p : Ch) : (s.collide p).bus = s.bus := by
  by_cases h : s.wrote = some p <;> simp [State.collide, h]

@[simp] theorem State.clampIf_pinsRise (s : State) (k : Ch) (b : Bool) : (s.clampIf k b).pinsRise = s.pinsRise := by
  cases b <;> rfl

@[simp] theorem State.collide_pinsRise (s : State) (p : Ch) : (s.collide p).pinsRise = s.pinsRise := by
  by_cases h : s.wrote = some p <;> simp [State.collide, h]

@[simp] theorem State.clampIf_pinsFall (s : State) (k : Ch) (b : Bool) : (s.clampIf k b).pinsFall = s.pinsFall := by
  cases b <;> rfl

@[simp] theorem State.collide_pinsFall (s : State) (p : Ch) : (s.collide p).pinsFall = s.pinsFall := by
  by_cases h : s.wrote = some p <;> simp [State.collide, h]

@[simp] theorem State.clampIf_wrote (s : State) (k : Ch) (b : Bool) : (s.clampIf k b).wrote = s.wrote := by
  cases b <;> rfl

@[simp] theorem State.collide_wrote (s : State) (p : Ch) : (s.collide p).wrote = s.wrote := by
  by_cases h : s.wrote = some p <;> simp [State.collide, h]

@[simp] theorem State.clampIf_inputs (s : State) (k : Ch) (b : Bool) : (s.clampIf k b).inputs = s.inputs := by
  cases b <;> rfl

@[simp] theorem State.collide_inputs (s : State) (p : Ch) : (s.collide p).inputs = s.inputs := by
  by_cases h : s.wrote = some p <;> simp [State.collide, h]

@[simp] theorem State.clampIf_draws (s : State) (k : Ch) (b : Bool) : (s.clampIf k b).draws = s.draws := by
  cases b <;> rfl

@[simp] theorem State.collide_draws (s : State) (p : Ch) : (s.collide p).draws = s.draws := by
  by_cases h : s.wrote = some p <;> simp [State.collide, h]

@[simp] theorem State.clampIf_chan (s : State) (k j : Ch) (b : Bool) :
    (s.clampIf k b).chan j = s.chan j := by
  cases b <;> rfl

@[simp] theorem State.collide_chan (s : State) (p j : Ch) : (s.collide p).chan j = s.chan j := by
  simp [State.chan]

end Sys2Proof.Machine
end

