-- ==== Sys2Proof/Laws/Ops.lean ====
section
/-! SUPPORT. For each shared operation, once, everything it can do: later proofs cite these instead of
unfolding the operation. -/

namespace Sys2Proof.Machine

/-! ## Responses -/

theorem next_inj {s t : State} : (Host.Outcome.next s : Result) = .next t ↔ s = t :=
  ⟨fun h => by cases h; rfl, fun h => by rw [h]⟩

/-- An OKAY response ends in the state with that response and nothing else changed. -/
theorem okay_next {d : Word} {s t : State} : okay d s = .next t ↔ t = s.respond (.okay d) := by
  unfold okay
  exact next_inj.trans eq_comm

/-- An SLVERR response ends in the state with that response and nothing else changed (R390). -/
theorem slverr_next {c : Cause} {s t : State} : slverr c s = .next t ↔ t = s.respond (.slverr c) := by
  unfold slverr
  exact next_inj.trans eq_comm

/-- A register read answers the register's value and changes nothing else (R155). -/
theorem readReg_next {f : State → Word} {s t : State} :
    readReg f s = .next t ↔ t = s.respond (.okay (f s)) := okay_next

/-! ## Acceptance of configuration writes -/

theorem acceptChannel_illegal {α : Type} {k : Ch} {upd : α → State → State} {s : State} :
    acceptChannel k none upd s = .next ((s.setCfgerr k).respond (.okay 0)) := rfl

theorem acceptChannel_running {α : Type} {k : Ch} {o : Option α} {upd : α → State → State}
    {s : State} (h : (s.chan k).run = true) :
    acceptChannel k o upd s = .next ((s.setCfgerr k).respond (.okay 0)) := by
  cases o with
  | none => rfl
  | some x => simp [acceptChannel, h, rejectChannel, okay]

theorem acceptChannel_stopped {α : Type} {k : Ch} {x : α} {upd : α → State → State} {s : State}
    (h : (s.chan k).run = false) :
    acceptChannel k (some x) upd s = .next ((upd x s).respond (.okay 0)) := by
  simp [acceptChannel, h, okay]

/-- A configuration write to a channel is rejected, or the channel is stopped and the write is made
(R156). -/
theorem acceptChannel_next {α : Type} {k : Ch} {o : Option α} {upd : α → State → State}
    {s t : State} (h : acceptChannel k o upd s = .next t) :
    ((o = none ∨ (s.chan k).run = true) ∧ t = (s.setCfgerr k).respond (.okay 0)) ∨
      ∃ x, o = some x ∧ (s.chan k).run = false ∧ t = (upd x s).respond (.okay 0) := by
  cases hr : (s.chan k).run with
  | true =>
    rw [acceptChannel_running hr, next_inj] at h
    exact .inl ⟨.inr rfl, h.symm⟩
  | false =>
    cases o with
    | none =>
      rw [acceptChannel_illegal, next_inj] at h
      exact .inl ⟨.inl rfl, h.symm⟩
    | some x =>
      rw [acceptChannel_stopped hr, next_inj] at h
      exact .inr ⟨x, rfl, rfl, h.symm⟩

theorem acceptTable_illegal {α : Type} {upd : α → State → State} {s : State} :
    acceptTable none upd s = .next (s.setLuterr.respond (.okay 0)) := rfl

theorem acceptTable_enabled {α : Type} {o : Option α} {upd : α → State → State} {s : State}
    (h : s.pgen = true) : acceptTable o upd s = .next (s.setLuterr.respond (.okay 0)) := by
  cases o with
  | none => rfl
  | some x => simp [acceptTable, h, rejectTable, okay]

theorem acceptTable_idle {α : Type} {x : α} {upd : α → State → State} {s : State}
    (h : s.pgen = false) : acceptTable (some x) upd s = .next ((upd x s).respond (.okay 0)) := by
  simp [acceptTable, h, okay]

/-- A table configuration write is rejected, or PGEN = 0 and the write is made (R156). -/
theorem acceptTable_next {α : Type} {o : Option α} {upd : α → State → State} {s t : State}
    (h : acceptTable o upd s = .next t) :
    ((o = none ∨ s.pgen = true) ∧ t = s.setLuterr.respond (.okay 0)) ∨
      ∃ x, o = some x ∧ s.pgen = false ∧ t = (upd x s).respond (.okay 0) := by
  cases hp : s.pgen with
  | true =>
    rw [acceptTable_enabled hp, next_inj] at h
    exact .inl ⟨.inr rfl, h.symm⟩
  | false =>
    cases o with
    | none =>
      rw [acceptTable_illegal, next_inj] at h
      exact .inl ⟨.inl rfl, h.symm⟩
    | some x =>
      rw [acceptTable_idle hp, next_inj] at h
      exact .inr ⟨x, rfl, rfl, h.symm⟩

/-! ## Reading the lookup table -/

/-- A table read gives the written entry and changes nothing, or gives a free draw and counts it
(R89). -/
theorem lutRead_cases (i : LutIndex) (s : State) :
    (∃ v, s.lut.readEntry i = some v ∧ lutRead i s = (v, s)) ∨
      (s.lut.readEntry i = none ∧ lutRead i s = (Config.lutDraw s.draws, s.countDraw)) := by
  cases h : s.lut.readEntry i with
  | none => exact .inr ⟨rfl, by simp [lutRead, h]⟩
  | some v => exact .inl ⟨v, rfl, by simp [lutRead, h]⟩

@[simp] theorem lutRead_ch (i : LutIndex) (s : State) : (lutRead i s).2.ch = s.ch := by
  rcases lutRead_cases i s with ⟨v, _, h⟩ | ⟨_, h⟩
  · exact congrArg (fun r => r.2.ch) h
  · exact congrArg (fun r => r.2.ch) h

@[simp] theorem lutRead_pgen (i : LutIndex) (s : State) : (lutRead i s).2.pgen = s.pgen := by
  rcases lutRead_cases i s with ⟨v, _, h⟩ | ⟨_, h⟩
  · exact congrArg (fun r => r.2.pgen) h
  · exact congrArg (fun r => r.2.pgen) h

@[simp] theorem lutRead_lutn (i : LutIndex) (s : State) : (lutRead i s).2.lutn = s.lutn := by
  rcases lutRead_cases i s with ⟨v, _, h⟩ | ⟨_, h⟩
  · exact congrArg (fun r => r.2.lutn) h
  · exact congrArg (fun r => r.2.lutn) h

@[simp] theorem lutRead_idx (i : LutIndex) (s : State) : (lutRead i s).2.idx = s.idx := by
  rcases lutRead_cases i s with ⟨v, _, h⟩ | ⟨_, h⟩
  · exact congrArg (fun r => r.2.idx) h
  · exact congrArg (fun r => r.2.idx) h

@[simp] theorem lutRead_cfgerr (i : LutIndex) (s : State) : (lutRead i s).2.cfgerr = s.cfgerr := by
  rcases lutRead_cases i s with ⟨v, _, h⟩ | ⟨_, h⟩
  · exact congrArg (fun r => r.2.cfgerr) h
  · exact congrArg (fun r => r.2.cfgerr) h

@[simp] theorem lutRead_luterr (i : LutIndex) (s : State) : (lutRead i s).2.luterr = s.luterr := by
  rcases lutRead_cases i s with ⟨v, _, h⟩ | ⟨_, h⟩
  · exact congrArg (fun r => r.2.luterr) h
  · exact congrArg (fun r => r.2.luterr) h

@[simp] theorem lutRead_clamp (i : LutIndex) (s : State) : (lutRead i s).2.clamp = s.clamp := by
  rcases lutRead_cases i s with ⟨v, _, h⟩ | ⟨_, h⟩
  · exact congrArg (fun r => r.2.clamp) h
  · exact congrArg (fun r => r.2.clamp) h

@[simp] theorem lutRead_coll (i : LutIndex) (s : State) : (lutRead i s).2.coll = s.coll := by
  rcases lutRead_cases i s with ⟨v, _, h⟩ | ⟨_, h⟩
  · exact congrArg (fun r => r.2.coll) h
  · exact congrArg (fun r => r.2.coll) h

@[simp] theorem lutRead_lut (i : LutIndex) (s : State) : (lutRead i s).2.lut = s.lut := by
  rcases lutRead_cases i s with ⟨v, _, h⟩ | ⟨_, h⟩
  · exact congrArg (fun r => r.2.lut) h
  · exact congrArg (fun r => r.2.lut) h

@[simp] theorem lutRead_bus (i : LutIndex) (s : State) : (lutRead i s).2.bus = s.bus := by
  rcases lutRead_cases i s with ⟨v, _, h⟩ | ⟨_, h⟩
  · exact congrArg (fun r => r.2.bus) h
  · exact congrArg (fun r => r.2.bus) h

@[simp] theorem lutRead_pinsRise (i : LutIndex) (s : State) : (lutRead i s).2.pinsRise = s.pinsRise := by
  rcases lutRead_cases i s with ⟨v, _, h⟩ | ⟨_, h⟩
  · exact congrArg (fun r => r.2.pinsRise) h
  · exact congrArg (fun r => r.2.pinsRise) h

@[simp] theorem lutRead_pinsFall (i : LutIndex) (s : State) : (lutRead i s).2.pinsFall = s.pinsFall := by
  rcases lutRead_cases i s with ⟨v, _, h⟩ | ⟨_, h⟩
  · exact congrArg (fun r => r.2.pinsFall) h
  · exact congrArg (fun r => r.2.pinsFall) h

@[simp] theorem lutRead_wrote (i : LutIndex) (s : State) : (lutRead i s).2.wrote = s.wrote := by
  rcases lutRead_cases i s with ⟨v, _, h⟩ | ⟨_, h⟩
  · exact congrArg (fun r => r.2.wrote) h
  · exact congrArg (fun r => r.2.wrote) h

@[simp] theorem lutRead_inputs (i : LutIndex) (s : State) : (lutRead i s).2.inputs = s.inputs := by
  rcases lutRead_cases i s with ⟨v, _, h⟩ | ⟨_, h⟩
  · exact congrArg (fun r => r.2.inputs) h
  · exact congrArg (fun r => r.2.inputs) h

@[simp] theorem lutRead_chan (i : LutIndex) (s : State) (k : Ch) :
    (lutRead i s).2.chan k = s.chan k := by
  simp [State.chan]

/-! ## The compare path -/

@[simp] theorem Channel.cmpWrite_run (c : Channel) (v : Tick) : (c.cmpWrite v).run = c.run := rfl

@[simp] theorem Channel.cmpWrite_outen (c : Channel) (v : Tick) : (c.cmpWrite v).outen = c.outen := rfl

@[simp] theorem Channel.cmpWrite_fresh (c : Channel) (v : Tick) : (c.cmpWrite v).fresh = c.fresh := rfl

@[simp] theorem Channel.cmpWrite_ec (c : Channel) (v : Tick) : (c.cmpWrite v).ec = c.ec := rfl

@[simp] theorem Channel.cmpWrite_mode (c : Channel) (v : Tick) : (c.cmpWrite v).mode = c.mode := rfl

@[simp] theorem Channel.cmpWrite_clkdiv (c : Channel) (v : Tick) : (c.cmpWrite v).clkdiv = c.clkdiv := rfl

@[simp] theorem Channel.cmpWrite_prd (c : Channel) (v : Tick) : (c.cmpWrite v).prd = c.prd := rfl

@[simp] theorem Channel.cmpWrite_ctr (c : Channel) (v : Tick) : (c.cmpWrite v).ctr = c.ctr := rfl

@[simp] theorem Channel.cmpWrite_dir (c : Channel) (v : Tick) : (c.cmpWrite v).dir = c.dir := rfl

@[simp] theorem Channel.cmpWrite_immed (c : Channel) (v : Tick) : (c.cmpWrite v).immed = c.immed := rfl

@[simp] theorem Channel.cmpWrite_duty (c : Channel) (v : Tick) : (c.cmpWrite v).duty = c.duty := rfl

@[simp] theorem Channel.cmpWrite_aq (c : Channel) (v : Tick) : (c.cmpWrite v).aq = c.aq := rfl

@[simp] theorem Channel.cmpWrite_dben (c : Channel) (v : Tick) : (c.cmpWrite v).dben = c.dben := rfl

@[simp] theorem Channel.cmpWrite_pol (c : Channel) (v : Tick) : (c.cmpWrite v).pol = c.pol := rfl

@[simp] theorem Channel.cmpWrite_half (c : Channel) (v : Tick) : (c.cmpWrite v).half = c.half := rfl

@[simp] theorem Channel.cmpWrite_red (c : Channel) (v : Tick) : (c.cmpWrite v).red = c.red := rfl

@[simp] theorem Channel.cmpWrite_fed (c : Channel) (v : Tick) : (c.cmpWrite v).fed = c.fed := rfl

@[simp] theorem Channel.cmpWrite_qa (c : Channel) (v : Tick) : (c.cmpWrite v).qa = c.qa := rfl

@[simp] theorem Channel.cmpWrite_qb (c : Channel) (v : Tick) : (c.cmpWrite v).qb = c.qb := rfl

@[simp] theorem Channel.cmpWrite_dtc (c : Channel) (v : Tick) : (c.cmpWrite v).dtc = c.dtc := rfl

@[simp] theorem Channel.cmpWrite_cmps (c : Channel) (v : Tick) : (c.cmpWrite v).cmps = v := rfl

@[simp] theorem Channel.cmpWrite_cmpa (c : Channel) (v : Tick) :
    (c.cmpWrite v).cmpa = if c.immed then v else c.cmpa := rfl

@[simp] theorem Channel.dutyWrite_run (c : Channel) (w : Word) : (c.dutyWrite w).run = c.run := rfl

@[simp] theorem Channel.dutyWrite_outen (c : Channel) (w : Word) : (c.dutyWrite w).outen = c.outen := rfl

@[simp] theorem Channel.dutyWrite_fresh (c : Channel) (w : Word) : (c.dutyWrite w).fresh = c.fresh := rfl

@[simp] theorem Channel.dutyWrite_ec (c : Channel) (w : Word) : (c.dutyWrite w).ec = c.ec := rfl

@[simp] theorem Channel.dutyWrite_mode (c : Channel) (w : Word) : (c.dutyWrite w).mode = c.mode := rfl

@[simp] theorem Channel.dutyWrite_clkdiv (c : Channel) (w : Word) : (c.dutyWrite w).clkdiv = c.clkdiv := rfl

@[simp] theorem Channel.dutyWrite_prd (c : Channel) (w : Word) : (c.dutyWrite w).prd = c.prd := rfl

@[simp] theorem Channel.dutyWrite_ctr (c : Channel) (w : Word) : (c.dutyWrite w).ctr = c.ctr := rfl

@[simp] theorem Channel.dutyWrite_dir (c : Channel) (w : Word) : (c.dutyWrite w).dir = c.dir := rfl

@[simp] theorem Channel.dutyWrite_immed (c : Channel) (w : Word) : (c.dutyWrite w).immed = c.immed := rfl

@[simp] theorem Channel.dutyWrite_aq (c : Channel) (w : Word) : (c.dutyWrite w).aq = c.aq := rfl

@[simp] theorem Channel.dutyWrite_dben (c : Channel) (w : Word) : (c.dutyWrite w).dben = c.dben := rfl

@[simp] theorem Channel.dutyWrite_pol (c : Channel) (w : Word) : (c.dutyWrite w).pol = c.pol := rfl

@[simp] theorem Channel.dutyWrite_half (c : Channel) (w : Word) : (c.dutyWrite w).half = c.half := rfl

@[simp] theorem Channel.dutyWrite_red (c : Channel) (w : Word) : (c.dutyWrite w).red = c.red := rfl

@[simp] theorem Channel.dutyWrite_fed (c : Channel) (w : Word) : (c.dutyWrite w).fed = c.fed := rfl

@[simp] theorem Channel.dutyWrite_qa (c : Channel) (w : Word) : (c.dutyWrite w).qa = c.qa := rfl

@[simp] theorem Channel.dutyWrite_qb (c : Channel) (w : Word) : (c.dutyWrite w).qb = c.qb := rfl

@[simp] theorem Channel.dutyWrite_dtc (c : Channel) (w : Word) : (c.dutyWrite w).dtc = c.dtc := rfl

@[simp] theorem Channel.dutyWrite_duty (c : Channel) (w : Word) : (c.dutyWrite w).duty = w := rfl

@[simp] theorem Channel.dutyWrite_cmps (c : Channel) (w : Word) :
    (c.dutyWrite w).cmps = convertValue w c.mode c.prd := rfl

@[simp] theorem Channel.dutyWrite_cmpa (c : Channel) (w : Word) :
    (c.dutyWrite w).cmpa = if c.immed then convertValue w c.mode c.prd else c.cmpa := rfl

/-- A duty write changes one channel and, for an out-of-range code, its CLAMP flag (R242). -/
theorem State.dutyWrite_eq (s : State) (k : Ch) (w : Word) :
    s.dutyWrite k w =
      { s with
        ch := s.ch.set k ((s.chan k).dutyWrite w)
        clamp := s.clamp.set k (s.clamp.get k || outOfRange w) } := by
  cases h : outOfRange w <;>
    simp [State.dutyWrite, State.clampIf, h, State.modChan, State.setChan, State.setClamp]

theorem tickMin_toNat (a b : Tick) : (tickMin a b).toNat = min a.toNat b.toNat := by
  unfold tickMin
  split <;> omega

/-- A compare value never exceeds the period (R245 item 1 rests on it). -/
theorem clampedRatio_le (w : Word) : clampedRatio w ≤ 0x10000 := by
  unfold clampedRatio dutyOne
  omega

/-! ## The counter, the qualifier and the dead-time engine: the fields a TB tick leaves alone -/

@[simp] theorem Channel.count_run (c : Channel) : c.count.run = c.run := by
  unfold Channel.count
  split <;> rfl

@[simp] theorem Channel.count_outen (c : Channel) : c.count.outen = c.outen := by
  unfold Channel.count
  split <;> rfl

@[simp] theorem Channel.count_ec (c : Channel) : c.count.ec = c.ec := by
  unfold Channel.count
  split <;> rfl

@[simp] theorem Channel.count_mode (c : Channel) : c.count.mode = c.mode := by
  unfold Channel.count
  split <;> rfl

@[simp] theorem Channel.count_clkdiv (c : Channel) : c.count.clkdiv = c.clkdiv := by
  unfold Channel.count
  split <;> rfl

@[simp] theorem Channel.count_prd (c : Channel) : c.count.prd = c.prd := by
  unfold Channel.count
  split <;> rfl

@[simp] theorem Channel.count_immed (c : Channel) : c.count.immed = c.immed := by
  unfold Channel.count
  split <;> rfl

@[simp] theorem Channel.count_cmps (c : Channel) : c.count.cmps = c.cmps := by
  unfold Channel.count
  split <;> rfl

@[simp] theorem Channel.count_duty (c : Channel) : c.count.duty = c.duty := by
  unfold Channel.count
  split <;> rfl

@[simp] theorem Channel.count_aq (c : Channel) : c.count.aq = c.aq := by
  unfold Channel.count
  split <;> rfl

@[simp] theorem Channel.count_dben (c : Channel) : c.count.dben = c.dben := by
  unfold Channel.count
  split <;> rfl

@[simp] theorem Channel.count_pol (c : Channel) : c.count.pol = c.pol := by
  unfold Channel.count
  split <;> rfl

@[simp] theorem Channel.count_half (c : Channel) : c.count.half = c.half := by
  unfold Channel.count
  split <;> rfl

@[simp] theorem Channel.count_red (c : Channel) : c.count.red = c.red := by
  unfold Channel.count
  split <;> rfl

@[simp] theorem Channel.count_fed (c : Channel) : c.count.fed = c.fed := by
  unfold Channel.count
  split <;> rfl

@[simp] theorem Channel.count_qa (c : Channel) : c.count.qa = c.qa := by
  unfold Channel.count
  split <;> rfl

@[simp] theorem Channel.count_qb (c : Channel) : c.count.qb = c.qb := by
  unfold Channel.count
  split <;> rfl

@[simp] theorem Channel.count_dtc (c : Channel) : c.count.dtc = c.dtc := by
  unfold Channel.count
  split <;> rfl

@[simp] theorem Channel.loadOnZero_run (c : Channel) : c.loadOnZero.run = c.run := by
  unfold Channel.loadOnZero
  split <;> rfl

@[simp] theorem Channel.loadOnZero_outen (c : Channel) : c.loadOnZero.outen = c.outen := by
  unfold Channel.loadOnZero
  split <;> rfl

@[simp] theorem Channel.loadOnZero_ec (c : Channel) : c.loadOnZero.ec = c.ec := by
  unfold Channel.loadOnZero
  split <;> rfl

@[simp] theorem Channel.loadOnZero_mode (c : Channel) : c.loadOnZero.mode = c.mode := by
  unfold Channel.loadOnZero
  split <;> rfl

@[simp] theorem Channel.loadOnZero_clkdiv (c : Channel) : c.loadOnZero.clkdiv = c.clkdiv := by
  unfold Channel.loadOnZero
  split <;> rfl

@[simp] theorem Channel.loadOnZero_prd (c : Channel) : c.loadOnZero.prd = c.prd := by
  unfold Channel.loadOnZero
  split <;> rfl

@[simp] theorem Channel.loadOnZero_immed (c : Channel) : c.loadOnZero.immed = c.immed := by
  unfold Channel.loadOnZero
  split <;> rfl

@[simp] theorem Channel.loadOnZero_cmps (c : Channel) : c.loadOnZero.cmps = c.cmps := by
  unfold Channel.loadOnZero
  split <;> rfl

@[simp] theorem Channel.loadOnZero_duty (c : Channel) : c.loadOnZero.duty = c.duty := by
  unfold Channel.loadOnZero
  split <;> rfl

@[simp] theorem Channel.loadOnZero_aq (c : Channel) : c.loadOnZero.aq = c.aq := by
  unfold Channel.loadOnZero
  split <;> rfl

@[simp] theorem Channel.loadOnZero_dben (c : Channel) : c.loadOnZero.dben = c.dben := by
  unfold Channel.loadOnZero
  split <;> rfl

@[simp] theorem Channel.loadOnZero_pol (c : Channel) : c.loadOnZero.pol = c.pol := by
  unfold Channel.loadOnZero
  split <;> rfl

@[simp] theorem Channel.loadOnZero_half (c : Channel) : c.loadOnZero.half = c.half := by
  unfold Channel.loadOnZero
  split <;> rfl

@[simp] theorem Channel.loadOnZero_red (c : Channel) : c.loadOnZero.red = c.red := by
  unfold Channel.loadOnZero
  split <;> rfl

@[simp] theorem Channel.loadOnZero_fed (c : Channel) : c.loadOnZero.fed = c.fed := by
  unfold Channel.loadOnZero
  split <;> rfl

@[simp] theorem Channel.loadOnZero_fresh (c : Channel) : c.loadOnZero.fresh = c.fresh := by
  unfold Channel.loadOnZero
  split <;> rfl

@[simp] theorem Channel.loadOnZero_ctr (c : Channel) : c.loadOnZero.ctr = c.ctr := by
  unfold Channel.loadOnZero
  split <;> rfl

@[simp] theorem Channel.loadOnZero_dir (c : Channel) : c.loadOnZero.dir = c.dir := by
  unfold Channel.loadOnZero
  split <;> rfl

@[simp] theorem Channel.loadOnZero_qa (c : Channel) : c.loadOnZero.qa = c.qa := by
  unfold Channel.loadOnZero
  split <;> rfl

@[simp] theorem Channel.loadOnZero_qb (c : Channel) : c.loadOnZero.qb = c.qb := by
  unfold Channel.loadOnZero
  split <;> rfl

@[simp] theorem Channel.loadOnZero_dtc (c : Channel) : c.loadOnZero.dtc = c.dtc := by
  unfold Channel.loadOnZero
  split <;> rfl

@[simp] theorem Channel.dtStep_run (c : Channel) (b : Bool) : (c.dtStep b).run = c.run := rfl

@[simp] theorem Channel.dtStep_outen (c : Channel) (b : Bool) : (c.dtStep b).outen = c.outen := rfl

@[simp] theorem Channel.dtStep_fresh (c : Channel) (b : Bool) : (c.dtStep b).fresh = c.fresh := rfl

@[simp] theorem Channel.dtStep_ec (c : Channel) (b : Bool) : (c.dtStep b).ec = c.ec := rfl

@[simp] theorem Channel.dtStep_mode (c : Channel) (b : Bool) : (c.dtStep b).mode = c.mode := rfl

@[simp] theorem Channel.dtStep_clkdiv (c : Channel) (b : Bool) : (c.dtStep b).clkdiv = c.clkdiv := rfl

@[simp] theorem Channel.dtStep_prd (c : Channel) (b : Bool) : (c.dtStep b).prd = c.prd := rfl

@[simp] theorem Channel.dtStep_ctr (c : Channel) (b : Bool) : (c.dtStep b).ctr = c.ctr := rfl

@[simp] theorem Channel.dtStep_dir (c : Channel) (b : Bool) : (c.dtStep b).dir = c.dir := rfl

@[simp] theorem Channel.dtStep_immed (c : Channel) (b : Bool) : (c.dtStep b).immed = c.immed := rfl

@[simp] theorem Channel.dtStep_cmpa (c : Channel) (b : Bool) : (c.dtStep b).cmpa = c.cmpa := rfl

@[simp] theorem Channel.dtStep_cmps (c : Channel) (b : Bool) : (c.dtStep b).cmps = c.cmps := rfl

@[simp] theorem Channel.dtStep_duty (c : Channel) (b : Bool) : (c.dtStep b).duty = c.duty := rfl

@[simp] theorem Channel.dtStep_aq (c : Channel) (b : Bool) : (c.dtStep b).aq = c.aq := rfl

@[simp] theorem Channel.dtStep_dben (c : Channel) (b : Bool) : (c.dtStep b).dben = c.dben := rfl

@[simp] theorem Channel.dtStep_pol (c : Channel) (b : Bool) : (c.dtStep b).pol = c.pol := rfl

@[simp] theorem Channel.dtStep_half (c : Channel) (b : Bool) : (c.dtStep b).half = c.half := rfl

@[simp] theorem Channel.dtStep_red (c : Channel) (b : Bool) : (c.dtStep b).red = c.red := rfl

@[simp] theorem Channel.dtStep_fed (c : Channel) (b : Bool) : (c.dtStep b).fed = c.fed := rfl

@[simp] theorem Channel.dtStep_qa (c : Channel) (b : Bool) : (c.dtStep b).qa = c.qa := rfl

@[simp] theorem Channel.dtStep_qb (c : Channel) (b : Bool) : (c.dtStep b).qb = c.qb := rfl

@[simp] theorem Channel.drive_run (c : Channel) : c.drive.run = c.run := rfl

@[simp] theorem Channel.drive_outen (c : Channel) : c.drive.outen = c.outen := rfl

@[simp] theorem Channel.drive_fresh (c : Channel) : c.drive.fresh = c.fresh := rfl

@[simp] theorem Channel.drive_ec (c : Channel) : c.drive.ec = c.ec := rfl

@[simp] theorem Channel.drive_mode (c : Channel) : c.drive.mode = c.mode := rfl

@[simp] theorem Channel.drive_clkdiv (c : Channel) : c.drive.clkdiv = c.clkdiv := rfl

@[simp] theorem Channel.drive_prd (c : Channel) : c.drive.prd = c.prd := rfl

@[simp] theorem Channel.drive_ctr (c : Channel) : c.drive.ctr = c.ctr := rfl

@[simp] theorem Channel.drive_dir (c : Channel) : c.drive.dir = c.dir := rfl

@[simp] theorem Channel.drive_immed (c : Channel) : c.drive.immed = c.immed := rfl

@[simp] theorem Channel.drive_cmpa (c : Channel) : c.drive.cmpa = c.cmpa := rfl

@[simp] theorem Channel.drive_cmps (c : Channel) : c.drive.cmps = c.cmps := rfl

@[simp] theorem Channel.drive_duty (c : Channel) : c.drive.duty = c.duty := rfl

@[simp] theorem Channel.drive_aq (c : Channel) : c.drive.aq = c.aq := rfl

@[simp] theorem Channel.drive_dben (c : Channel) : c.drive.dben = c.dben := rfl

@[simp] theorem Channel.drive_pol (c : Channel) : c.drive.pol = c.pol := rfl

@[simp] theorem Channel.drive_half (c : Channel) : c.drive.half = c.half := rfl

@[simp] theorem Channel.drive_red (c : Channel) : c.drive.red = c.red := rfl

@[simp] theorem Channel.drive_fed (c : Channel) : c.drive.fed = c.fed := rfl

@[simp] theorem Channel.tbTick_run (c : Channel) : c.tbTick.run = c.run := by
  simp [Channel.tbTick]

@[simp] theorem Channel.tbTick_outen (c : Channel) : c.tbTick.outen = c.outen := by
  simp [Channel.tbTick]

@[simp] theorem Channel.tbTick_ec (c : Channel) : c.tbTick.ec = c.ec := by
  simp [Channel.tbTick]

@[simp] theorem Channel.tbTick_mode (c : Channel) : c.tbTick.mode = c.mode := by
  simp [Channel.tbTick]

@[simp] theorem Channel.tbTick_clkdiv (c : Channel) : c.tbTick.clkdiv = c.clkdiv := by
  simp [Channel.tbTick]

@[simp] theorem Channel.tbTick_prd (c : Channel) : c.tbTick.prd = c.prd := by
  simp [Channel.tbTick]

@[simp] theorem Channel.tbTick_immed (c : Channel) : c.tbTick.immed = c.immed := by
  simp [Channel.tbTick]

@[simp] theorem Channel.tbTick_cmps (c : Channel) : c.tbTick.cmps = c.cmps := by
  simp [Channel.tbTick]

@[simp] theorem Channel.tbTick_duty (c : Channel) : c.tbTick.duty = c.duty := by
  simp [Channel.tbTick]

@[simp] theorem Channel.tbTick_aq (c : Channel) : c.tbTick.aq = c.aq := by
  simp [Channel.tbTick]

@[simp] theorem Channel.tbTick_dben (c : Channel) : c.tbTick.dben = c.dben := by
  simp [Channel.tbTick]

@[simp] theorem Channel.tbTick_pol (c : Channel) : c.tbTick.pol = c.pol := by
  simp [Channel.tbTick]

@[simp] theorem Channel.tbTick_half (c : Channel) : c.tbTick.half = c.half := by
  simp [Channel.tbTick]

@[simp] theorem Channel.tbTick_red (c : Channel) : c.tbTick.red = c.red := by
  simp [Channel.tbTick]

@[simp] theorem Channel.tbTick_fed (c : Channel) : c.tbTick.fed = c.fed := by
  simp [Channel.tbTick]

@[simp] theorem Channel.halfTick_run (c : Channel) : c.halfTick.run = c.run := rfl

@[simp] theorem Channel.halfTick_outen (c : Channel) : c.halfTick.outen = c.outen := rfl

@[simp] theorem Channel.halfTick_fresh (c : Channel) : c.halfTick.fresh = c.fresh := rfl

@[simp] theorem Channel.halfTick_ec (c : Channel) : c.halfTick.ec = c.ec := rfl

@[simp] theorem Channel.halfTick_mode (c : Channel) : c.halfTick.mode = c.mode := rfl

@[simp] theorem Channel.halfTick_clkdiv (c : Channel) : c.halfTick.clkdiv = c.clkdiv := rfl

@[simp] theorem Channel.halfTick_prd (c : Channel) : c.halfTick.prd = c.prd := rfl

@[simp] theorem Channel.halfTick_ctr (c : Channel) : c.halfTick.ctr = c.ctr := rfl

@[simp] theorem Channel.halfTick_dir (c : Channel) : c.halfTick.dir = c.dir := rfl

@[simp] theorem Channel.halfTick_immed (c : Channel) : c.halfTick.immed = c.immed := rfl

@[simp] theorem Channel.halfTick_cmpa (c : Channel) : c.halfTick.cmpa = c.cmpa := rfl

@[simp] theorem Channel.halfTick_cmps (c : Channel) : c.halfTick.cmps = c.cmps := rfl

@[simp] theorem Channel.halfTick_duty (c : Channel) : c.halfTick.duty = c.duty := rfl

@[simp] theorem Channel.halfTick_aq (c : Channel) : c.halfTick.aq = c.aq := rfl

@[simp] theorem Channel.halfTick_dben (c : Channel) : c.halfTick.dben = c.dben := rfl

@[simp] theorem Channel.halfTick_pol (c : Channel) : c.halfTick.pol = c.pol := rfl

@[simp] theorem Channel.halfTick_half (c : Channel) : c.halfTick.half = c.half := rfl

@[simp] theorem Channel.halfTick_red (c : Channel) : c.halfTick.red = c.red := rfl

@[simp] theorem Channel.halfTick_fed (c : Channel) : c.halfTick.fed = c.fed := rfl

@[simp] theorem Channel.halfTick_qa (c : Channel) : c.halfTick.qa = c.qa := rfl

@[simp] theorem Channel.halfTick_qb (c : Channel) : c.halfTick.qb = c.qb := rfl

@[simp] theorem Channel.advanceEc_run (c : Channel) : c.advanceEc.run = c.run := rfl

@[simp] theorem Channel.advanceEc_outen (c : Channel) : c.advanceEc.outen = c.outen := rfl

@[simp] theorem Channel.advanceEc_fresh (c : Channel) : c.advanceEc.fresh = c.fresh := rfl

@[simp] theorem Channel.advanceEc_mode (c : Channel) : c.advanceEc.mode = c.mode := rfl

@[simp] theorem Channel.advanceEc_clkdiv (c : Channel) : c.advanceEc.clkdiv = c.clkdiv := rfl

@[simp] theorem Channel.advanceEc_prd (c : Channel) : c.advanceEc.prd = c.prd := rfl

@[simp] theorem Channel.advanceEc_ctr (c : Channel) : c.advanceEc.ctr = c.ctr := rfl

@[simp] theorem Channel.advanceEc_dir (c : Channel) : c.advanceEc.dir = c.dir := rfl

@[simp] theorem Channel.advanceEc_immed (c : Channel) : c.advanceEc.immed = c.immed := rfl

@[simp] theorem Channel.advanceEc_cmpa (c : Channel) : c.advanceEc.cmpa = c.cmpa := rfl

@[simp] theorem Channel.advanceEc_cmps (c : Channel) : c.advanceEc.cmps = c.cmps := rfl

@[simp] theorem Channel.advanceEc_duty (c : Channel) : c.advanceEc.duty = c.duty := rfl

@[simp] theorem Channel.advanceEc_aq (c : Channel) : c.advanceEc.aq = c.aq := rfl

@[simp] theorem Channel.advanceEc_dben (c : Channel) : c.advanceEc.dben = c.dben := rfl

@[simp] theorem Channel.advanceEc_pol (c : Channel) : c.advanceEc.pol = c.pol := rfl

@[simp] theorem Channel.advanceEc_half (c : Channel) : c.advanceEc.half = c.half := rfl

@[simp] theorem Channel.advanceEc_red (c : Channel) : c.advanceEc.red = c.red := rfl

@[simp] theorem Channel.advanceEc_fed (c : Channel) : c.advanceEc.fed = c.fed := rfl

@[simp] theorem Channel.advanceEc_qa (c : Channel) : c.advanceEc.qa = c.qa := rfl

@[simp] theorem Channel.advanceEc_qb (c : Channel) : c.advanceEc.qb = c.qb := rfl

@[simp] theorem Channel.advanceEc_dtc (c : Channel) : c.advanceEc.dtc = c.dtc := rfl

@[simp] theorem Channel.count_fresh (c : Channel) : c.count.fresh = false := by
  unfold Channel.count
  cases c.fresh
  · simp
  · simp

@[simp] theorem Channel.tbTick_fresh (c : Channel) : c.tbTick.fresh = false := by
  simp [Channel.tbTick]

/-- The age counter after a dead-time step (R313). -/
theorem Channel.dtStep_dtc (c : Channel) (b : Bool) :
    (c.dtStep b).dtc.toNat = if b then 0 else min (c.dtc.toNat + 1) 65536 := by
  cases b with
  | true => rfl
  | false =>
    show (BitVec.ofNat 17 (min (c.dtc.toNat + 1) 65536)).toNat = min (c.dtc.toNat + 1) 65536
    rw [BitVec.toNat_ofNat]
    omega

/-- The prescaler's count after a sub-step (R193). -/
theorem Channel.advanceEc_ec (c : Channel) :
    c.advanceEc.ec.toNat = (c.ec.toNat + 1) % (2 * c.div) := by
  have hd : 0 < 2 * c.div := by unfold Channel.div; omega
  have hc := c.clkdiv.isLt
  have hm := Nat.mod_lt (c.ec.toNat + 1) hd
  have : c.div ≤ 256 := by unfold Channel.div; omega
  simp only [Channel.advanceEc, BitVec.toNat_ofNat]
  omega

/-! ## Sequencing the parts of a cycle -/

@[simp] theorem andThen_next (s : State) (f : State → Result) : andThen (.next s) f = f s := rfl

/-- Two parts in a row end in a next state only through the next state of the first. -/
theorem andThen_eq_next {r : Result} {f : State → Result} {t : State} :
    andThen r f = .next t ↔ ∃ u, r = .next u ∧ f u = .next t := by
  cases r with
  | next u => exact ⟨fun h => ⟨u, rfl, h⟩, fun ⟨_, h, h'⟩ => by cases h; exact h'⟩
  | fault e => exact ⟨fun h => (by cases h), fun ⟨_, h, _⟩ => (by cases h)⟩
  | refused e => exact ⟨fun h => (by cases h), fun ⟨_, h, _⟩ => (by cases h)⟩

@[simp] theorem runOp_none (s : State) : runOp none s = .next s := rfl

@[simp] theorem runOp_some (i : Instr) (s : State) : runOp (some i) s = exec i s := rfl

/-- What a sub-step does to its channel (R193). -/
def Channel.substep (c : Channel) : Channel :=
  if c.run then
    if c.ec = 0 then c.tbTick.advanceEc
    else if c.ec.toNat = c.div && c.half then c.halfTick.advanceEc
    else c.advanceEc
  else c

/-- A sub-step of a channel changes that channel and nothing else. -/
theorem substep_eq (k : Ch) (s : State) : substep k s = .next (s.modChan k Channel.substep) := by
  unfold substep Channel.selects Channel.substep
  have mm : ∀ f g : Channel → Channel, (s.modChan k f).modChan k g = s.modChan k fun c => g (f c) := by
    intro f g
    simp [State.modChan, State.setChan, State.chan]
  have me : ∀ f : Channel → Channel, s.modChan k f = s.setChan k (f (s.chan k)) := fun _ => rfl
  cases hr : (s.chan k).run with
  | false =>
    simp only [Bool.false_eq_true, if_false, me, hr]
    cases s
    simp [State.setChan, State.chan]
  | true =>
    simp only [if_true]
    by_cases h0 : (s.chan k).ec = 0
    · simp only [h0, if_true, runOp_some]
      show andThen (.next (s.modChan k Channel.tbTick)) _ = _
      rw [andThen_next, mm, me, me]
      simp [hr, h0]
    · cases h1 : (decide ((s.chan k).ec.toNat = (s.chan k).div) && (s.chan k).half) with
      | true =>
        simp only [h0, if_false, if_true, runOp_some]
        show andThen (.next (s.modChan k Channel.halfTick)) _ = _
        rw [andThen_next, mm, me, me]
        simp only [hr, h0, h1, if_true, if_false]
      | false =>
        simp only [h0, if_false, Bool.false_eq_true, runOp_none, andThen_next]
        rw [me, me]
        simp only [hr, h0, h1, if_true, if_false, Bool.false_eq_true]

/-- The sub-steps of the three channels, all at once. -/
def State.substeps (s : State) : State := { s with ch := PerCh.ofFn fun k => (s.chan k).substep }

@[simp] theorem State.substeps_chan (s : State) (k : Ch) :
    s.substeps.chan k = (s.chan k).substep := by
  cases k <;> rfl

/-- A sub-step of the block is a sub-step of each channel, whatever their order (R150). -/
theorem substeps_eq (s : State) : Sys2Proof.Machine.substeps s = .next s.substeps := by
  unfold Sys2Proof.Machine.substeps
  rw [substep_eq, andThen_next, substep_eq, andThen_next, substep_eq]
  rfl

/-- What a cycle does after its bus transaction, as one state (R150). -/
def State.afterBus (s : State) (tick : Bool) : State :=
  let s1 := if tick && s.pgen then s.sampleStep else s
  let s2 := { s1.substeps with pinsRise := s1.substeps.pins }
  { s2.substeps with pinsFall := s2.substeps.pins }

theorem afterBus_eq (tick : Bool) (s : State) :
    Sys2Proof.Machine.afterBus tick s = .next (s.afterBus tick) := by
  unfold Sys2Proof.Machine.afterBus samplePart
  have hs : ∀ u : State, andThen (risePart u) fallPart =
      .next { (State.substeps { u.substeps with pinsRise := u.substeps.pins }) with
        pinsFall := (State.substeps { u.substeps with pinsRise := u.substeps.pins }).pins } := by
    intro u
    simp only [risePart, fallPart, substeps_eq, andThen_next]
  have ha : ∀ r : Result, andThen (andThen r risePart) fallPart =
      andThen r fun u => andThen (risePart u) fallPart := by
    intro r
    cases r <;> rfl
  rw [ha]
  unfold State.afterBus
  cases tick && s.pgen with
  | false => simp only [Bool.false_eq_true, if_false, runOp_none, andThen_next, hs]
  | true =>
    simp only [if_true, runOp_some]
    show andThen (.next s.sampleStep) _ = _
    simp only [andThen_next, hs]

end Sys2Proof.Machine
end

