-- ==== Sys2Proof/Laws/Channel.lean ====
section
/-! SUPPORT. What the counter, the shadow load, the qualifier, a sub-step and the converter give, each said
once: a proof about a tick or a code cites these. -/

namespace Sys2Proof.Machine

/-! ## The counter and the shadow load -/

/-- The counter after the counter update of a tick (R194). -/
theorem Channel.count_ctr (c : Channel) :
    c.count.ctr = if c.fresh then (startValue c.mode c.prd).1
      else (nextValue c.mode c.prd c.ctr c.dir).1 := by
  unfold Channel.count
  split <;> rfl

/-- The direction after the counter update of a tick (R194). -/
theorem Channel.count_dir (c : Channel) :
    c.count.dir = if c.fresh then (startValue c.mode c.prd).2
      else (nextValue c.mode c.prd c.ctr c.dir).2 := by
  unfold Channel.count
  split <;> rfl

/-- The active compare value after the counter update of a tick (R232 point 1). -/
theorem Channel.count_cmpa (c : Channel) : c.count.cmpa = if c.fresh then c.cmps else c.cmpa := by
  unfold Channel.count
  split <;> rfl

theorem Channel.tbTick_ctr (c : Channel) : c.tbTick.ctr = c.count.ctr := by
  simp [Channel.tbTick]

theorem Channel.tbTick_dir (c : Channel) : c.tbTick.dir = c.count.dir := by
  simp [Channel.tbTick]

/-- The active compare value after a tick (R232): loaded at a start and at Zero. -/
theorem Channel.tbTick_cmpa (c : Channel) :
    c.tbTick.cmpa = if c.fresh = true ∨ c.count.ctr = 0 then c.cmps else c.cmpa := by
  simp only [Channel.tbTick, Channel.drive_cmpa, Channel.loadOnZero]
  split
  · rename_i h
    simp [h]
  · rename_i h
    have h' : ¬ c.count.ctr = 0#16 := h
    simp [h', Channel.count_cmpa]

/-! ## The qualifier -/

/-- Pin A after a tick (R273). -/
theorem Channel.tbTick_qa (c : Channel) :
    c.tbTick.qa = (pickAction c.aq .a c.count.loadOnZero.events.order).apply c.qa := by
  simp [Channel.tbTick, Channel.drive, Channel.qualify]

/-- Pin B after a tick (R273). -/
theorem Channel.tbTick_qb (c : Channel) :
    c.tbTick.qb = (pickAction c.aq .b c.count.loadOnZero.events.order).apply c.qb := by
  simp [Channel.tbTick, Channel.drive, Channel.qualify]

/-- The age counter after a tick is a dead-time step's (R313). -/
theorem Channel.tbTick_dtc (c : Channel) :
    c.tbTick.dtc.toNat = if c.tbTick.qa != c.qa then 0 else min (c.dtc.toNat + 1) 65536 := by
  have h : c.tbTick.dtc = (c.count.loadOnZero.dtStep (c.tbTick.qa != c.qa)).dtc := by
    rw [Channel.tbTick_qa]
    simp [Channel.tbTick, Channel.drive, Channel.dtStep, Channel.qualify]
  rw [h, Channel.dtStep_dtc]
  simp

/-- The code of a field of the action table (R52). -/
theorem aqField_bits (aq : BitVec 16) (pin : Pin) (e : Event) :
    (aqField aq pin e).bits.toNat = aq.toNat / 2 ^ (pin.offset + e.offset) % 4 := by
  have hx : (aq.extractLsb' (pin.offset + e.offset) 2).toNat =
      aq.toNat / 2 ^ (pin.offset + e.offset) % 4 := by
    simp [Nat.shiftRight_eq_div_pow]
  unfold aqField
  rw [← hx]
  generalize aq.extractLsb' (pin.offset + e.offset) 2 = b
  revert b
  decide

/-- An event that holds and has an action decides; else the next one does (R272). -/
theorem pickAction_cons (aq : BitVec 16) (pin : Pin) (e : Event) (b : Bool)
    (rest : List (Event × Bool)) :
    pickAction aq pin ((e, b) :: rest) =
      if b = true ∧ aqField aq pin e ≠ .noChange then aqField aq pin e
      else pickAction aq pin rest := by
  simp only [pickAction]
  cases b <;> cases aqField aq pin e <;> rfl

/-- An action applied, on the numbers 0 and 1 (R274). -/
theorem Action.apply_toNat (a : Action) (q : Bool) :
    (a.apply q).toNat =
      if a.bits.toNat = 0 then q.toNat else if a.bits.toNat = 1 then 0
      else if a.bits.toNat = 2 then 1 else 1 - q.toNat := by
  cases a <;> cases q <;> rfl

/-! ## A sub-step -/

/-- What a sub-step never changes. -/
theorem Channel.substep_frame (c : Channel) :
    c.substep.run = c.run ∧ c.substep.outen = c.outen ∧ c.substep.mode = c.mode ∧
      c.substep.clkdiv = c.clkdiv ∧ c.substep.prd = c.prd ∧ c.substep.immed = c.immed ∧
      c.substep.cmps = c.cmps ∧ c.substep.duty = c.duty ∧ c.substep.aq = c.aq ∧
      c.substep.dben = c.dben ∧ c.substep.pol = c.pol ∧ c.substep.half = c.half ∧
      c.substep.red = c.red ∧ c.substep.fed = c.fed := by
  unfold Channel.substep
  split
  · split
    · simp
    · split <;> simp
  · simp

/-- A stopped channel's sub-step does nothing (R200). -/
theorem Channel.substep_stopped {c : Channel} (h : c.run = false) : c.substep = c := by
  simp [Channel.substep, h]

/-- The prescaler's count after a sub-step of a running channel (R193). -/
theorem Channel.substep_ec {c : Channel} (h : c.run = true) :
    c.substep.ec.toNat = (c.ec.toNat + 1) % (2 * c.div) := by
  unfold Channel.substep
  simp only [h, if_true]
  split
  · rw [Channel.advanceEc_ec]
    simp [Channel.div]
  · split <;> exact Channel.advanceEc_ec _

/-! ## The converter -/

/-- The clamped ratio as an integer (R237). -/
theorem clampedRatio_int (w : Word) :
    ((clampedRatio w : Nat) : Int) = min (max w.toInt 0) 0x10000 := by
  unfold clampedRatio dutyOne
  omega

/-- The compare value of a code as a number (R237). -/
theorem convert_toNat (w : Word) (m : Mode) (p : Tick) :
    (convert w m p).1.toNat =
      min ((clampedRatio w * dutyScale m p + 0x8000) / 0x10000) p.toNat := by
  have hp := p.isLt
  show (convertValue w m p).toNat = _
  unfold convertValue
  rw [BitVec.toNat_ofNat, Nat.mod_eq_of_lt (by omega)]

end Sys2Proof.Machine
end

