-- ==== Sys2Proof/Laws/Step.lean ====
section
/-! SUPPORT. What one bus transaction can do, and what one cycle can do, each said once: a statement about
every step is proved by cases on these. -/

namespace Sys2Proof.Machine

/-- Everything a bus transaction can do to the state, guards included. -/
inductive BusEffect (s : State) : Instr → State → Prop
  | respond {i : Instr} (r : BusResult) : BusEffect s i (s.respond r)
  | draw {i : Instr} (d : Word) : BusEffect s i (s.countDraw.respond (.okay d))
  | rejectChannel {i : Instr} (k : Ch) : BusEffect s i ((s.setCfgerr k).respond (.okay 0))
  | rejectTable {i : Instr} : BusEffect s i (s.setLuterr.respond (.okay 0))
  | gctl (w : Word) : BusEffect s (.wrGctl w) ((s.gctlWrite w).respond (.okay 0))
  | err (w : Word) : BusEffect s (.wrErr w) ((s.clearFlags w).respond (.okay 0))
  | tbctl {i : Instr} (k : Ch) (x : Mode × BitVec 8) (h : (s.chan k).run = false) :
      BusEffect s i ((State.setTbctl k x s).respond (.okay 0))
  | tbprd {i : Instr} (k : Ch) (p : Tick) (h : (s.chan k).run = false) :
      BusEffect s i ((State.setTbprd k p s).respond (.okay 0))
  | cmpctl {i : Instr} (k : Ch) (b : Bool) (h : (s.chan k).run = false) :
      BusEffect s i ((State.setImmed k b s).respond (.okay 0))
  | aqctl {i : Instr} (k : Ch) (v : BitVec 16) (h : (s.chan k).run = false) :
      BusEffect s i ((State.setAq k v s).respond (.okay 0))
  | dbctl {i : Instr} (k : Ch) (x : DbctlOperand) (h : (s.chan k).run = false) :
      BusEffect s i ((State.setDbctl k x s).respond (.okay 0))
  | dbred {i : Instr} (k : Ch) (v : Tick) (h : (s.chan k).run = false) :
      BusEffect s i ((State.setRed k v s).respond (.okay 0))
  | dbfed {i : Instr} (k : Ch) (v : Tick) (h : (s.chan k).run = false) :
      BusEffect s i ((State.setFed k v s).respond (.okay 0))
  | cmp (k : Ch) (w : Word) : BusEffect s (.chWrite k .cmp w)
      (((State.cmpBusWrite k (cmpOperand w) s).markWrote k).respond (.okay 0))
  | duty (k : Ch) (w : Word) : BusEffect s (.chWrite k .duty w)
      (((s.dutyWrite k w).markWrote k).respond (.okay 0))
  | lutn {i : Instr} (n : BitVec 11) (h : s.pgen = false) (hl : 2 ≤ n.toNat) (hu : n.toNat ≤ 1024) :
      BusEffect s i ((State.setLutn n s).respond (.okay 0))
  | phidx {i : Instr} (p : Ch) (x : LutIndex) (h : s.pgen = false) (hx : x.toNat < s.lutn.toNat) :
      BusEffect s i ((State.setIdx p x s).respond (.okay 0))
  | lut {i : Instr} (e : LutIndex) (v : Word) (h : s.pgen = false) :
      BusEffect s i ((s.lutWrite e v).respond (.okay 0))

/-- A legal operand is the operand that was cut out, and it was legal. -/
theorem legalIf_eq_some {α : Type} {b : Bool} {x y : α} : legalIf b x = some y ↔ b = true ∧ x = y := by
  cases b <;> simp [legalIf]

theorem readReg_effect {i : Instr} {f : State → Word} {s t : State} (h : readReg f s = .next t) :
    BusEffect s i t := by
  rw [readReg_next.mp h]
  exact .respond _

theorem slverr_effect {i : Instr} {c : Cause} {s t : State} (h : slverr c s = .next t) :
    BusEffect s i t := by
  rw [slverr_next.mp h]
  exact .respond _

theorem acceptChannel_effect {α : Type} {i : Instr} {k : Ch} {o : Option α}
    {upd : α → State → State} {s t : State}
    (hu : ∀ x, (s.chan k).run = false → BusEffect s i ((upd x s).respond (.okay 0)))
    (h : acceptChannel k o upd s = .next t) : BusEffect s i t := by
  obtain ⟨-, rfl⟩ | ⟨x, -, hr, rfl⟩ := acceptChannel_next h
  · exact .rejectChannel k
  · exact hu x hr

theorem acceptTable_effect {α : Type} {i : Instr} {o : Option α} {upd : α → State → State}
    {s t : State}
    (hu : ∀ x, o = some x → s.pgen = false → BusEffect s i ((upd x s).respond (.okay 0)))
    (h : acceptTable o upd s = .next t) : BusEffect s i t := by
  obtain ⟨-, rfl⟩ | ⟨x, ho, hp, rfl⟩ := acceptTable_next h
  · exact .rejectTable
  · exact hu x ho hp

theorem writeLutn_effect {i : Instr} {w : Word} {s t : State} (h : writeLutn w s = .next t) :
    BusEffect s i t :=
  acceptTable_effect (fun n ho hp => by
    obtain ⟨hb, rfl⟩ := legalIf_eq_some.mp ho
    simp only [Bool.and_eq_true, decide_eq_true_eq] at hb
    exact .lutn _ hp hb.1.2 hb.2) h

theorem writePhidx_effect {i : Instr} {p : Ch} {w : Word} {s t : State}
    (h : writePhidx p w s = .next t) : BusEffect s i t :=
  acceptTable_effect (fun x ho hp => by
    obtain ⟨hb, rfl⟩ := legalIf_eq_some.mp ho
    simp only [Bool.and_eq_true, decide_eq_true_eq] at hb
    exact .phidx p _ hp hb.2) h

theorem readLut_effect {i : Instr} {e : LutIndex} {s t : State} (h : readLut e s = .next t) :
    BusEffect s i t := by
  unfold readLut at h
  rw [okay_next.mp h]
  obtain ⟨v, -, h2⟩ | ⟨-, h2⟩ := lutRead_cases e s
  · rw [h2]
    exact .respond _
  · rw [h2]
    exact .draw _

/-- What a bus transaction does is one of these effects. -/
theorem exec_effect {i : Instr} {s t : State} (hb : i.isBus = true) (h : exec i s = .next t) :
    BusEffect s i t := by
  cases i <;>
    first
      | exact absurd hb Bool.false_ne_true
      | exact readReg_effect h
      | exact readReg_effect (f := fun _ => Config.idValue) h
      | exact slverr_effect h
      | exact readLut_effect h
      | exact writeLutn_effect h
      | exact writePhidx_effect h
      | exact acceptTable_effect (o := some _)
          (upd := fun v t => t.lutWrite _ v) (fun _ _ hp => .lut _ _ hp) h
      | exact acceptChannel_effect (upd := State.setTbctl _) (fun x hr => .tbctl _ x hr) h
      | exact acceptChannel_effect (upd := State.setTbprd _) (fun x hr => .tbprd _ x hr) h
      | exact acceptChannel_effect (upd := State.setImmed _) (fun x hr => .cmpctl _ x hr) h
      | exact acceptChannel_effect (upd := State.setAq _) (fun x hr => .aqctl _ x hr) h
      | exact acceptChannel_effect (upd := State.setDbctl _) (fun x hr => .dbctl _ x hr) h
      | exact acceptChannel_effect (upd := State.setRed _) (fun x hr => .dbred _ x hr) h
      | exact acceptChannel_effect (upd := State.setFed _) (fun x hr => .dbfed _ x hr) h
      | exact (okay_next.mp h) ▸ .gctl _
      | exact (okay_next.mp h) ▸ .err _
      | exact (okay_next.mp h) ▸ .cmp .c0 _
      | exact (okay_next.mp h) ▸ .cmp .c1 _
      | exact (okay_next.mp h) ▸ .cmp .c2 _
      | exact (okay_next.mp h) ▸ .duty .c0 _
      | exact (okay_next.mp h) ▸ .duty .c1 _
      | exact (okay_next.mp h) ▸ .duty .c2 _

theorem decodeGlobal_isBus (d : Option Word) (off : Nat) (a : Addr) :
    (decodeGlobal d off a).isBus = true := by
  unfold decodeGlobal
  split <;> cases d <;> rfl

theorem decodeChannel_isBus (d : Option Word) (a : Addr) : (decodeChannel d a).isBus = true := by
  unfold decodeChannel
  split
  · rfl
  · rfl
  · rename_i k r _ _
    cases k <;> cases r <;> rfl
  · rename_i k r _ _ _
    cases k <;> cases r <;> rfl

theorem decodeWord_isBus (d : Option Word) (a : Addr) : (decodeWord d a).isBus = true := by
  unfold decodeWord
  split
  · cases d <;> rfl
  · split
    · exact decodeGlobal_isBus _ _ _
    · exact decodeChannel_isBus _ _
    · rfl

/-- The decoder answers bus operations only (R112). -/
theorem decode_isBus (h : Header) (w : Word) : (decode h w).isBus = true := by
  unfold decode
  dsimp only
  split
  · rfl
  · rfl
  · rfl
  · split
    · rfl
    · split
      · rfl
      · exact decodeWord_isBus _ _

/-- What the bus phase of a cycle leaves: the state as it was, or that of the transaction, which is one of
the effects above (R150, R154). -/
def busPhase (s : State) (o : Option Instr) (u : State) : Prop :=
  (o = none ∧ u = s) ∨ ∃ i, o = some i ∧ exec i s = .next u ∧ BusEffect s i u

/-- Everything a step can do (R150): a reset, or the bus phase and the rest of the cycle. -/
theorem step_cases {s t : State} (h : step s = .next t) :
    (s.input.rst = true ∧ t = s.beginCycle.doReset) ∨
      (s.input.rst = false ∧ ∃ u, busPhase s.beginCycle s.input.transaction u ∧
        t = u.afterBus s.input.sampleTick) := by
  unfold step cycle at h
  cases hr : s.input.rst with
  | true =>
    rw [hr, if_pos rfl] at h
    exact .inl ⟨rfl, (next_inj.mp h).symm⟩
  | false =>
    simp only [hr, Bool.false_eq_true, if_false] at h
    obtain ⟨u, hu, hv⟩ := andThen_eq_next.mp h
    rw [afterBus_eq, next_inj] at hv
    refine .inr ⟨rfl, u, ?_, hv.symm⟩
    cases ho : s.input.transaction with
    | none =>
      rw [ho, runOp_none, next_inj] at hu
      exact .inl ⟨rfl, hu.symm⟩
    | some i =>
      rw [ho, runOp_some] at hu
      refine .inr ⟨i, rfl, hu, exec_effect ?_ hu⟩
      unfold CycleInput.transaction at ho
      split at ho
      · cases ho
        exact decode_isBus _ _
      · cases ho

/-! ## The parts of a cycle after the bus -/

/-- The state the sub-steps of a cycle start from: after the sample step, if there is one (R150). -/
def State.sampled (s : State) (tick : Bool) : State := if tick && s.pgen then s.sampleStep else s

/-- A channel after the rest of a cycle: two sub-steps after the sample step. -/
theorem State.afterBus_chan (s : State) (tick : Bool) (k : Ch) :
    (s.afterBus tick).chan k = ((s.sampled tick).chan k).substep.substep := by
  unfold State.afterBus State.sampled
  cases k <;> rfl

/-- The two pin samples of a cycle (R152). -/
theorem State.afterBus_pins (s : State) (tick : Bool) (k : Ch) :
    (s.afterBus tick).pinsRise.get k = ((s.sampled tick).chan k).substep.pins ∧
      (s.afterBus tick).pinsFall.get k = ((s.afterBus tick).chan k).pins := by
  rw [State.afterBus_chan]
  cases k <;> exact ⟨rfl, rfl⟩

/-- One phase of the sample step, on a channel. -/
theorem State.samplePhase_chan (s : State) (p k : Ch) :
    (s.samplePhase p).chan k =
      if k = p then (s.chan p).dutyWrite (lutRead ((s.advance p).idx.get p) (s.advance p)).1
      else s.chan k := by
  simp only [State.samplePhase, State.dutyWrite, State.clampIf_chan, State.modChan_chan,
    State.collide_chan, lutRead_chan, State.advance_chan]

/-- One phase of the sample step, on the index. -/
theorem State.samplePhase_idx (s : State) (p : Ch) :
    (s.samplePhase p).idx = s.idx.set p (nextIdx (s.idx.get p) s.lutn) := by
  simp [State.samplePhase, State.dutyWrite, State.advance, State.setIdx]

/-- The sample step writes one code to each channel, through the duty path. -/
theorem State.sampleStep_chan (s : State) (k : Ch) :
    ∃ w, s.sampleStep.chan k = (s.chan k).dutyWrite w := by
  unfold State.sampleStep
  cases k <;> simp [State.samplePhase_chan]

/-- What the sample step never changes. -/
theorem State.sampleStep_frame (s : State) :
    s.sampleStep.pgen = s.pgen ∧ s.sampleStep.lutn = s.lutn ∧ s.sampleStep.lut = s.lut ∧
      s.sampleStep.cfgerr = s.cfgerr ∧ s.sampleStep.luterr = s.luterr := by
  simp [State.sampleStep, State.samplePhase, State.dutyWrite]

/-- A TBPRD write sets the period and brings both compare values within it (R191, R192). -/
theorem State.setTbprd_chan (s : State) (k j : Ch) (p : Tick) :
    (State.setTbprd k p s).chan j =
      if j = k then Channel.clampCompare { s.chan k with prd := p } else s.chan j := by
  unfold State.setTbprd State.clampCompareToPeriod
  simp only [State.modChan_chan_same]
  split
  · simp only [State.setClamp_chan, State.modChan_chan]
    split <;> simp
  · rename_i hn
    simp only [Channel.compareAbovePeriod, Bool.or_eq_true, decide_eq_true_eq, not_or,
      Nat.not_lt] at hn
    simp only [State.modChan_chan]
    split
    · simp [Channel.clampCompare, tickMin, hn.1, hn.2]
    · rfl

end Sys2Proof.Machine
end

