-- ==== Sys2Proof/Laws/HostRun.lean ====
section
/-! SUPPORT. What the rest of a cycle leaves as the bus transaction left it, and what one line of a host's
program does: a proof about a host procedure cites these. -/

namespace Sys2Proof.Machine

/-- The rest of a cycle after its bus transaction keeps the response and every register that only the bus
writes (R150). -/
theorem State.afterBus_frame (s : State) (tick : Bool) :
    (s.afterBus tick).bus = s.bus ∧ (s.afterBus tick).pgen = s.pgen ∧
      (s.afterBus tick).lutn = s.lutn ∧ (s.afterBus tick).lut = s.lut ∧
      (s.afterBus tick).cfgerr = s.cfgerr ∧ (s.afterBus tick).luterr = s.luterr ∧
      (s.afterBus tick).inputs = s.inputs := by
  unfold State.afterBus
  cases tick && s.pgen <;>
    simp [State.substeps, State.sampleStep, State.samplePhase, State.dutyWrite]

/-- The rest of a cycle keeps every channel's control and configuration (R157, R194, R358). -/
theorem State.afterBus_channel_frame (s : State) (tick : Bool) (k : Ch) :
    ((s.afterBus tick).chan k).run = (s.chan k).run ∧
      ((s.afterBus tick).chan k).outen = (s.chan k).outen ∧
      ((s.afterBus tick).chan k).mode = (s.chan k).mode ∧
      ((s.afterBus tick).chan k).clkdiv = (s.chan k).clkdiv ∧
      ((s.afterBus tick).chan k).prd = (s.chan k).prd ∧
      ((s.afterBus tick).chan k).immed = (s.chan k).immed ∧
      ((s.afterBus tick).chan k).aq = (s.chan k).aq ∧
      ((s.afterBus tick).chan k).dben = (s.chan k).dben ∧
      ((s.afterBus tick).chan k).pol = (s.chan k).pol ∧
      ((s.afterBus tick).chan k).half = (s.chan k).half ∧
      ((s.afterBus tick).chan k).red = (s.chan k).red ∧
      ((s.afterBus tick).chan k).fed = (s.chan k).fed := by
  rw [State.afterBus_chan]
  unfold State.sampled
  split
  · obtain ⟨w, hw⟩ := State.sampleStep_chan s k
    simp [Channel.substep_frame, hw, Channel.dutyWrite, Channel.cmpWrite]
  · simp [Channel.substep_frame]

/-- The state in which a line's transaction acts: the coming cycle's input replaced by the line, no
response given yet. -/
def State.forLine (s : State) : State :=
  { s with inputs := s.inputs.tail, bus := .noTransaction, wrote := none }

/-- A line that presents a transaction runs its operation and the rest of the cycle (R119, R150). -/
theorem runLine_eq {l : Line} {i : Instr} {s u : State} (hr : l.input.rst = false)
    (ht : l.input.transaction = some i) (h : exec i s.forLine = .next u) :
    runLine l s = .next (u.afterBus l.input.sampleTick) := by
  have hi : ({ s with inputs := l.input :: s.inputs.tail } : State).input = l.input := rfl
  unfold runLine cycle
  rw [hi, hr, ht]
  show Sys2Proof.Machine.andThen (exec i s.forLine) _ = _
  rw [h]
  exact afterBus_eq _ _

/-- A line without a transaction runs the rest of the cycle only. -/
theorem runLine_idle (s : State) (tick : Bool) :
    runLine (.idle tick) s = .next (s.forLine.afterBus tick) :=
  afterBus_eq _ _

/-- An RD line reads the register of the state it finds. -/
theorem runLine_read {r : RegName} {i : Instr} {f : State → Word} (s : State)
    (ht : (Line.rd r false).input.transaction = some i) (hi : ∀ u, exec i u = readReg f u) :
    ∃ t, runLine (.rd r false) s = .next t ∧ t.readData = f s.forLine ∧
      t = (s.forLine.respond (.okay (f s.forLine))).afterBus false := by
  refine ⟨_, runLine_eq rfl ht (hi _), ?_, rfl⟩
  unfold State.readData
  rw [(State.afterBus_frame _ _).1]
  rfl

end Sys2Proof.Machine
end

