-- ==== Sys2Proof/Laws/HostTable.lean ====
section
/-! SUPPORT. The sine table of R364 exists for every size and is the only one, so a SineTable adds nothing to
the rule and leaves nothing open. -/

namespace Sys2Proof.Machine

/-- The code of an entry as a number: the right side of `IsTableCode` lies in [0, 0x1_0000] (R364). -/
theorem tableCode_bounds {n i : Nat} {c : Int} (h : IsTableCode n i c) : 0 ≤ c ∧ c ≤ 0x10000 := by
  unfold IsTableCode at h
  have h1 := Real.neg_one_le_sin (2 * Real.pi * i / n)
  have h2 := Real.sin_le_one (2 * Real.pi * i / n)
  subst h
  refine ⟨Int.floor_nonneg.mpr (by linarith), ?_⟩
  rw [← Int.lt_add_one_iff, Int.floor_lt]
  push_cast
  linarith

theorem tableCode_toInt {c : Int} (h : 0 ≤ c ∧ c ≤ 0x10000) : (BitVec.ofInt 32 c).toInt = c := by
  rw [BitVec.toInt_ofInt]
  exact Int.bmod_eq_of_le (by omega) (by omega)

/-- Every size has a table. -/
theorem sineTable_exists (n : Nat) : ∃ codes, IsTable n codes := by
  have hc : ∀ i, ∃ c, IsTableCode n i c := fun i => ⟨_, rfl⟩
  choose f hf using hc
  refine ⟨(List.range n).map fun i => BitVec.ofInt 32 (f i), by simp, fun i h => ?_⟩
  simp only [List.getElem_map, List.getElem_range]
  rw [tableCode_toInt (tableCode_bounds (hf i))]
  exact hf i

/-- Two tables of one size hold the same codes. -/
theorem SineTable.codes_unique {n : Nat} (a b : SineTable n) : a.codes = b.codes := by
  have hl : a.codes.length = b.codes.length := a.isTable.1.trans b.isTable.1.symm
  refine List.ext_getElem hl fun i h1 h2 => BitVec.eq_of_toInt_eq ?_
  rw [a.isTable.2 i h1, b.isTable.2 i h2]

end Sys2Proof.Machine
end

