-- ==== Sys2Proof/Laws/Memory.lean ====
section
/-! SUPPORT. The lookup-table RAM as a list of cells: what a read gives after a write, and that every write
keeps the canonical form. -/

namespace Sys2Proof.Machine

/-! ## Reading after writing one byte -/

@[simp] theorem Memory.readByte_nil (x : Nat) : Memory.readByte [] x = none := rfl

@[simp] theorem Memory.readByte_writeByte_same (m : Memory) (x : Nat) (v : Byte) :
    (m.writeByte x v).readByte x = some v := by
  induction m with
  | nil => simp [Memory.writeByte, Memory.readByte]
  | cons c m ih =>
    obtain ⟨a, b⟩ := c
    simp only [Memory.writeByte]
    split
    · simp [Memory.readByte]
    · split
      · simp [Memory.readByte]
      · rename_i hne
        simp [Memory.readByte, hne, ih]

theorem Memory.readByte_writeByte_ne (m : Memory) {x y : Nat} (h : y ≠ x) (v : Byte) :
    (m.writeByte x v).readByte y = m.readByte y := by
  induction m with
  | nil => simp [Memory.writeByte, Memory.readByte, h, Memory.unlisted]
  | cons c m ih =>
    obtain ⟨a, b⟩ := c
    simp only [Memory.writeByte]
    split
    · simp [Memory.readByte, h]
    · split
      · rename_i hxa
        subst hxa
        simp [Memory.readByte, h]
      · simp [Memory.readByte, ih]

theorem Memory.readByte_writeByte (m : Memory) (x y : Nat) (v : Byte) :
    (m.writeByte x v).readByte y = if y = x then some v else m.readByte y := by
  split
  · rename_i h
    rw [h, readByte_writeByte_same]
  · rename_i h
    exact readByte_writeByte_ne m h v

/-! ## Reading after writing an entry -/

theorem lutByte_inj {i j : LutIndex} {a b : Nat} (ha : a < 4) (hb : b < 4)
    (h : lutByte i a = lutByte j b) : i = j ∧ a = b := by
  unfold lutByte at h
  have : i.toNat = j.toNat := by omega
  exact ⟨BitVec.eq_of_toNat_eq this, by omega⟩

/-- Every byte after an entry was written: the four lanes of the entry, and every other byte as it
was. -/
theorem Memory.readByte_writeEntry (m : Memory) (i : LutIndex) (v : Word) (y : Nat) :
    (m.writeEntry i v).readByte y =
      if lutByte i 0 ≤ y ∧ y < lutByte i 0 + 4 then some (lane v (y - lutByte i 0))
      else m.readByte y := by
  have e1 : lutByte i 1 = lutByte i 0 + 1 := rfl
  have e2 : lutByte i 2 = lutByte i 0 + 2 := rfl
  have e3 : lutByte i 3 = lutByte i 0 + 3 := rfl
  simp only [Memory.writeEntry, Memory.readByte_writeByte, e1, e2, e3]
  generalize lutByte i 0 = b
  by_cases h0 : y = b
  · subst h0; simp
  by_cases h1 : y = b + 1
  · subst h1; simp
  by_cases h2 : y = b + 2
  · subst h2; simp
  by_cases h3 : y = b + 3
  · subst h3; simp
  have : ¬ (b ≤ y ∧ y < b + 4) := by omega
  rw [if_neg h3, if_neg h2, if_neg h1, if_neg h0, if_neg this]

theorem ofLanes_lane (v : Word) : ofLanes (lane v 0) (lane v 1) (lane v 2) (lane v 3) = v := by
  apply BitVec.eq_of_getLsbD_eq
  intro n hn
  simp only [ofLanes, lane, BitVec.getLsbD_append, BitVec.getLsbD_extractLsb']
  by_cases h0 : n < 8
  · simp [h0]
  by_cases h1 : n < 16
  · have : n - 8 < 8 := by omega
    simp [h0, this]
    congr 1
    omega
  by_cases h2 : n < 24
  · have a : ¬ n - 8 < 8 := by omega
    have b : n - 8 - 8 < 8 := by omega
    simp [h0, a, b]
    congr 1
    omega
  · have a : ¬ n - 8 < 8 := by omega
    have b : ¬ n - 8 - 8 < 8 := by omega
    have c : n - 8 - 8 - 8 < 8 := by omega
    simp [h0, a, b, c]
    congr 1
    omega

@[simp] theorem Memory.readEntry_writeEntry_same (m : Memory) (i : LutIndex) (v : Word) :
    (m.writeEntry i v).readEntry i = some v := by
  simp [Memory.readEntry, Memory.readByte_writeEntry, lutByte, ofLanes_lane]

theorem Memory.readEntry_writeEntry_ne (m : Memory) {i j : LutIndex} (h : j ≠ i) (v : Word) :
    (m.writeEntry i v).readEntry j = m.readEntry j := by
  have hne : j.toNat ≠ i.toNat := fun e => h (BitVec.eq_of_toNat_eq e)
  have key : ∀ a, a < 4 → (m.writeEntry i v).readByte (lutByte j a) = m.readByte (lutByte j a) := by
    intro a ha
    rw [Memory.readByte_writeEntry, if_neg]
    unfold lutByte
    omega
  simp [Memory.readEntry, key]

/-! ## The canonical form -/

theorem Memory.mem_writeByte {m : Memory} {x : Nat} {v : Byte} {c : Host.Cell}
    (h : c ∈ m.writeByte x v) : c = (x, v) ∨ c ∈ m := by
  induction m with
  | nil => simpa [Memory.writeByte] using h
  | cons d m ih =>
    obtain ⟨a, b⟩ := d
    simp only [Memory.writeByte] at h
    split at h
    · simpa using h
    · split at h
      · rcases List.mem_cons.mp h with h | h
        · exact .inl h
        · exact .inr (List.mem_cons_of_mem _ h)
      · rcases List.mem_cons.mp h with h | h
        · exact .inr (h ▸ List.mem_cons_self)
        · rcases ih h with h | h
          · exact .inl h
          · exact .inr (List.mem_cons_of_mem _ h)

theorem Memory.writeByte_sorted {m : Memory} (h : m.Pairwise (fun x y => x.1 < y.1)) (x : Nat)
    (v : Byte) : (m.writeByte x v).Pairwise (fun x y => x.1 < y.1) := by
  induction m with
  | nil => simp [Memory.writeByte]
  | cons c m ih =>
    obtain ⟨a, b⟩ := c
    obtain ⟨hc, hm⟩ := List.pairwise_cons.mp h
    simp only [Memory.writeByte]
    split
    · rename_i hlt
      refine List.pairwise_cons.mpr ⟨fun d hd => ?_, h⟩
      rcases List.mem_cons.mp hd with hd | hd
      · exact hd ▸ hlt
      · exact Nat.lt_trans hlt (hc d hd)
    · split
      · rename_i hxa
        exact List.pairwise_cons.mpr ⟨fun d hd => hxa ▸ hc d hd, hm⟩
      · rename_i hlt hne
        refine List.pairwise_cons.mpr ⟨fun d hd => ?_, ih hm⟩
        rcases Memory.mem_writeByte hd with hd | hd
        · subst hd
          show a < x
          omega
        · exact hc d hd

theorem Memory.wf_nil : Memory.wf [] := by decide

/-- Writing an entry keeps the canonical form. -/
theorem Memory.writeEntry_wf {m : Memory} (h : m.wf) (i : LutIndex) (v : Word) :
    (m.writeEntry i v).wf := by
  refine ⟨Memory.writeByte_sorted (Memory.writeByte_sorted (Memory.writeByte_sorted
    (Memory.writeByte_sorted h.1 _ _) _ _) _ _) _ _, fun c hc => ?_⟩
  have hi := i.isLt
  have old : (∃ j, j < 4 ∧ c.1 = lutByte i j) ∨ c ∈ m := by
    unfold Memory.writeEntry at hc
    rcases Memory.mem_writeByte hc with e | hc
    · exact .inl ⟨3, by omega, by rw [e]⟩
    rcases Memory.mem_writeByte hc with e | hc
    · exact .inl ⟨2, by omega, by rw [e]⟩
    rcases Memory.mem_writeByte hc with e | hc
    · exact .inl ⟨1, by omega, by rw [e]⟩
    rcases Memory.mem_writeByte hc with e | hc
    · exact .inl ⟨0, by omega, by rw [e]⟩
    · exact .inr hc
  rcases old with ⟨j, hj, e⟩ | hm
  · unfold lutByte at e
    refine ⟨by omega, by omega, fun l => ?_⟩
    have hl := l.isLt
    rw [Memory.readByte_writeEntry, if_pos]
    · rfl
    · unfold lutByte
      omega
  · obtain ⟨h1, h2, h3⟩ := h.2 c hm
    refine ⟨h1, h2, fun l => ?_⟩
    rw [Memory.readByte_writeEntry]
    split
    · rfl
    · exact h3 l

theorem State.lutWrite_wf {s : State} (h : s.lut.wf) (i : LutIndex) (v : Word) :
    (s.lutWrite i v).lut.wf := Memory.writeEntry_wf h i v

theorem State.reset_lut_wf : State.reset.lut.wf := Memory.wf_nil

end Sys2Proof.Machine
end

