-- ==== Sys2Proof/Laws/PerInstr.lean ====
section
/-! SUPPORT. Facts about every operation as syntax, one lemma per constructor. `RowBits`: the encoder's header
has the bits that the operation's row of spec/opcode_table.json fixes, and a data word goes with it
exactly when its W bit is 1. -/

namespace Sys2Proof.Laws.RowBits

/-- The mask and match of an operation's row in spec/opcode_table.json; the internal operations have
none. -/
def row : Instr → Option (Header × Header)
  | .rdId => some (0xFFFF#16, 0x4000#16)
  | .rdGctl => some (0xFFFF#16, 0x4004#16)
  | .wrGctl _ => some (0xFFFF#16, 0xC004#16)
  | .rdErr => some (0xFFFF#16, 0x4008#16)
  | .wrErr _ => some (0xFFFF#16, 0xC008#16)
  | .rdLutn => some (0xFFFF#16, 0x400C#16)
  | .wrLutn _ => some (0xFFFF#16, 0xC00C#16)
  | .rdPhidx0 => some (0xFFFF#16, 0x4010#16)
  | .wrPhidx0 _ => some (0xFFFF#16, 0xC010#16)
  | .rdPhidx1 => some (0xFFFF#16, 0x4014#16)
  | .wrPhidx1 _ => some (0xFFFF#16, 0xC014#16)
  | .rdPhidx2 => some (0xFFFF#16, 0x4018#16)
  | .wrPhidx2 _ => some (0xFFFF#16, 0xC018#16)
  | .rdCh0Tbctl => some (0xFFFF#16, 0x4100#16)
  | .wrCh0Tbctl _ => some (0xFFFF#16, 0xC100#16)
  | .rdCh0Tbprd => some (0xFFFF#16, 0x4104#16)
  | .wrCh0Tbprd _ => some (0xFFFF#16, 0xC104#16)
  | .rdCh0Tbctr => some (0xFFFF#16, 0x4108#16)
  | .rdCh0Cmpctl => some (0xFFFF#16, 0x410C#16)
  | .wrCh0Cmpctl _ => some (0xFFFF#16, 0xC10C#16)
  | .rdCh0Cmp => some (0xFFFF#16, 0x4110#16)
  | .wrCh0Cmp _ => some (0xFFFF#16, 0xC110#16)
  | .rdCh0Cmpshd => some (0xFFFF#16, 0x4114#16)
  | .rdCh0Duty => some (0xFFFF#16, 0x4118#16)
  | .wrCh0Duty _ => some (0xFFFF#16, 0xC118#16)
  | .rdCh0Aqctl => some (0xFFFF#16, 0x411C#16)
  | .wrCh0Aqctl _ => some (0xFFFF#16, 0xC11C#16)
  | .rdCh0Dbctl => some (0xFFFF#16, 0x4120#16)
  | .wrCh0Dbctl _ => some (0xFFFF#16, 0xC120#16)
  | .rdCh0Dbred => some (0xFFFF#16, 0x4124#16)
  | .wrCh0Dbred _ => some (0xFFFF#16, 0xC124#16)
  | .rdCh0Dbfed => some (0xFFFF#16, 0x4128#16)
  | .wrCh0Dbfed _ => some (0xFFFF#16, 0xC128#16)
  | .rdCh0Outst => some (0xFFFF#16, 0x412C#16)
  | .rdCh1Tbctl => some (0xFFFF#16, 0x4140#16)
  | .wrCh1Tbctl _ => some (0xFFFF#16, 0xC140#16)
  | .rdCh1Tbprd => some (0xFFFF#16, 0x4144#16)
  | .wrCh1Tbprd _ => some (0xFFFF#16, 0xC144#16)
  | .rdCh1Tbctr => some (0xFFFF#16, 0x4148#16)
  | .rdCh1Cmpctl => some (0xFFFF#16, 0x414C#16)
  | .wrCh1Cmpctl _ => some (0xFFFF#16, 0xC14C#16)
  | .rdCh1Cmp => some (0xFFFF#16, 0x4150#16)
  | .wrCh1Cmp _ => some (0xFFFF#16, 0xC150#16)
  | .rdCh1Cmpshd => some (0xFFFF#16, 0x4154#16)
  | .rdCh1Duty => some (0xFFFF#16, 0x4158#16)
  | .wrCh1Duty _ => some (0xFFFF#16, 0xC158#16)
  | .rdCh1Aqctl => some (0xFFFF#16, 0x415C#16)
  | .wrCh1Aqctl _ => some (0xFFFF#16, 0xC15C#16)
  | .rdCh1Dbctl => some (0xFFFF#16, 0x4160#16)
  | .wrCh1Dbctl _ => some (0xFFFF#16, 0xC160#16)
  | .rdCh1Dbred => some (0xFFFF#16, 0x4164#16)
  | .wrCh1Dbred _ => some (0xFFFF#16, 0xC164#16)
  | .rdCh1Dbfed => some (0xFFFF#16, 0x4168#16)
  | .wrCh1Dbfed _ => some (0xFFFF#16, 0xC168#16)
  | .rdCh1Outst => some (0xFFFF#16, 0x416C#16)
  | .rdCh2Tbctl => some (0xFFFF#16, 0x4180#16)
  | .wrCh2Tbctl _ => some (0xFFFF#16, 0xC180#16)
  | .rdCh2Tbprd => some (0xFFFF#16, 0x4184#16)
  | .wrCh2Tbprd _ => some (0xFFFF#16, 0xC184#16)
  | .rdCh2Tbctr => some (0xFFFF#16, 0x4188#16)
  | .rdCh2Cmpctl => some (0xFFFF#16, 0x418C#16)
  | .wrCh2Cmpctl _ => some (0xFFFF#16, 0xC18C#16)
  | .rdCh2Cmp => some (0xFFFF#16, 0x4190#16)
  | .wrCh2Cmp _ => some (0xFFFF#16, 0xC190#16)
  | .rdCh2Cmpshd => some (0xFFFF#16, 0x4194#16)
  | .rdCh2Duty => some (0xFFFF#16, 0x4198#16)
  | .wrCh2Duty _ => some (0xFFFF#16, 0xC198#16)
  | .rdCh2Aqctl => some (0xFFFF#16, 0x419C#16)
  | .wrCh2Aqctl _ => some (0xFFFF#16, 0xC19C#16)
  | .rdCh2Dbctl => some (0xFFFF#16, 0x41A0#16)
  | .wrCh2Dbctl _ => some (0xFFFF#16, 0xC1A0#16)
  | .rdCh2Dbred => some (0xFFFF#16, 0x41A4#16)
  | .wrCh2Dbred _ => some (0xFFFF#16, 0xC1A4#16)
  | .rdCh2Dbfed => some (0xFFFF#16, 0x41A8#16)
  | .wrCh2Dbfed _ => some (0xFFFF#16, 0xC1A8#16)
  | .rdCh2Outst => some (0xFFFF#16, 0x41AC#16)
  | .rdLut _ => some (0xF003#16, 0x5000#16)
  | .wrLut _ _ => some (0xF003#16, 0xD000#16)
  | .slverrSize0 _ _ => some (0x6000#16, 0x0000#16)
  | .slverrSize1 _ _ => some (0x6000#16, 0x2000#16)
  | .slverrSize3 _ _ => some (0x6000#16, 0x6000#16)
  | .slverrAlign0 _ _ => some (0x6001#16, 0x4001#16)
  | .slverrAlign1 _ _ => some (0x6002#16, 0x4002#16)
  | .slverrUnmappedGlobalPage _ _ => some (0x7F03#16, 0x4000#16)
  | .slverrUnmappedChannelOffset _ _ => some (0x7F03#16, 0x4100#16)
  | .slverrUnmappedChannel3 _ _ => some (0x7FC3#16, 0x41C0#16)
  | .slverrUnmappedPages2to15 _ _ => some (0x7003#16, 0x4000#16)
  | .slverrRoWrId _ => some (0xFFFF#16, 0xC000#16)
  | .slverrRoWrCh0Tbctr _ => some (0xFFFF#16, 0xC108#16)
  | .slverrRoWrCh0Cmpshd _ => some (0xFFFF#16, 0xC114#16)
  | .slverrRoWrCh0Outst _ => some (0xFFFF#16, 0xC12C#16)
  | .slverrRoWrCh1Tbctr _ => some (0xFFFF#16, 0xC148#16)
  | .slverrRoWrCh1Cmpshd _ => some (0xFFFF#16, 0xC154#16)
  | .slverrRoWrCh1Outst _ => some (0xFFFF#16, 0xC16C#16)
  | .slverrRoWrCh2Tbctr _ => some (0xFFFF#16, 0xC188#16)
  | .slverrRoWrCh2Cmpshd _ => some (0xFFFF#16, 0xC194#16)
  | .slverrRoWrCh2Outst _ => some (0xFFFF#16, 0xC1AC#16)
  | .reset => none
  | .sample => none
  | .tbTick _ => none
  | .halfTick _ => none

/-- The header fits the row, and the data word goes with W = 1. -/
def fits (h : Header) (d : Option Word) (mask mtch : Header) : Prop :=
  h &&& mask = mtch ∧ d.isSome = headerW h

/-- Every header the encoder gives for a well-formed `i` fits the row of `i`. -/
def Statement (i : Instr) : Prop :=
  ∀ h d mask mtch, i.wellFormed = true → encode i = some (h, d) → row i = some (mask, mtch) →
    fits h d mask mtch

theorem of_encode {i : Instr} {h : Header} {d : Option Word} {mask mtch : Header}
    (he : encode i = some (h, d)) (hr : row i = some (mask, mtch))
    (hf : i.wellFormed = true → fits h d mask mtch) : Statement i := by
  intro h' d' mask' mtch' hw he' hr'
  rw [he] at he'
  rw [hr] at hr'
  cases he'
  cases hr'
  exact hf hw

theorem of_internal {i : Instr} (he : encode i = none) : Statement i := by
  intro h d mask mtch _ he' _
  rw [he] at he'
  cases he'

/-- A header's bits by position (R110). -/
theorem getLsbD_packHeader (w : Bool) (size : BitVec 2) (a : Addr) (n : Nat) :
    (packHeader w size a).getLsbD n =
      if n < 13 then a.getLsbD n else if n < 15 then size.getLsbD (n - 13)
      else if n = 15 then w else false := by
  unfold packHeader
  rw [BitVec.getLsbD_append]
  by_cases h1 : n < 13
  · simp [h1]
  · rw [if_neg h1, BitVec.getLsbD_append, if_neg h1]
    by_cases h2 : n < 15
    · have : n - 13 < 2 := by omega
      rw [if_pos this, if_pos h2]
    · have : ¬ n - 13 < 2 := by omega
      rw [if_neg this, if_neg h2]
      by_cases h3 : n = 15
      · subst h3
        cases w <;> rfl
      · rw [if_neg h3]
        exact BitVec.getLsbD_of_ge _ _ (by omega)

theorem headerW_packHeader (w : Bool) (size : BitVec 2) (a : Addr) :
    headerW (packHeader w size a) = w := getLsbD_packHeader w size a 15

/-- The header of a transaction answered SLVERR fits a row that fixes only SIZE. -/
theorem fits_of_bits {w : Bool} {size : BitVec 2} {a : Addr} {d : Option Word}
    {mask mtch : Header} (hd : d.isSome = w)
    (hb : ∀ n, n < 16 → (((if n < 13 then a.getLsbD n else if n < 15 then size.getLsbD (n - 13)
      else if n = 15 then w else false) && mask.getLsbD n) = mtch.getLsbD n)) :
    fits (packHeader w size a) d mask mtch := by
  refine ⟨BitVec.eq_of_getLsbD_eq fun n hn => ?_, by rw [headerW_packHeader, hd]⟩
  rw [BitVec.getLsbD_and, getLsbD_packHeader]
  exact hb n hn

/-- A bit of a value from a field of it. -/
theorem bit_of_field {n len lo : Nat} {a : BitVec n} {v : BitVec len}
    (h : a.extractLsb' lo len = v) {j : Nat} (hj : j < len) : a.getLsbD (lo + j) = v.getLsbD j := by
  rw [← h, BitVec.getLsbD_extractLsb']
  simp [hj]

/-- An aligned address has its two low bits 0. -/
theorem aligned_bits {a : Addr} (h : a.aligned = true) :
    a[0] = false ∧ a[1] = false := by
  have e : a.extractLsb' 0 2 = 0#2 := by simpa [Addr.aligned] using h
  exact ⟨by simpa using bit_of_field e (j := 0) (by omega),
    by simpa using bit_of_field e (j := 1) (by omega)⟩

/-- The page bits ADDR[12:8] of an address from its page. -/
theorem page_bits {a : Addr} {v : BitVec 5} (e : a.extractLsb' 8 5 = v) :
    a[8] = v[0] ∧ a[9] = v[1] ∧ a[10] = v[2] ∧ a[11] = v[3] ∧ a[12] = v[4] :=
  ⟨by simpa using bit_of_field e (j := 0) (by omega),
    by simpa using bit_of_field e (j := 1) (by omega),
    by simpa using bit_of_field e (j := 2) (by omega),
    by simpa using bit_of_field e (j := 3) (by omega),
    by simpa using bit_of_field e (j := 4) (by omega)⟩

/-- A page below 16 has ADDR[12] = 0. -/
theorem low_page_bit {a : Addr} (h : (a.extractLsb' 8 5).toNat < 16) : a[12] = false := by
  have e := bit_of_field (a := a) (lo := 8) (len := 5) rfl (j := 4) (by omega)
  rw [show 8 + 4 = 12 from rfl] at e
  have z : (a.extractLsb' 8 5).getLsbD 4 = false := Nat.testBit_lt_two_pow h
  simpa using e.trans z

/-- A header of the lookup-table window fits the LUT row of its direction. -/
theorem lut_fits (w : Bool) (i : LutIndex) (d : Option Word) (hd : d.isSome = w) :
    fits (packHeader w 2#2 (lutAddr i)) d 0xF003#16 (if w then 0xD000#16 else 0x5000#16) := by
  refine fits_of_bits hd fun n hn => ?_
  have b : ∀ m, (lutAddr i).getLsbD m =
      if m < 2 then false else if m < 12 then i.getLsbD (m - 2) else if m = 12 then true
      else false := by
    intro m
    unfold lutAddr
    rw [BitVec.getLsbD_append]
    by_cases h1 : m < 2
    · simp [h1]
    · rw [if_neg h1, if_neg h1, BitVec.getLsbD_append]
      by_cases h2 : m < 12
      · rw [if_pos h2, if_pos (by omega)]
      · rw [if_neg h2, if_neg (by omega)]
        by_cases h3 : m = 12
        · subst h3; rfl
        · rw [if_neg h3]
          exact BitVec.getLsbD_of_ge _ _ (by omega)
  simp only [b]
  cases w <;> interval_cases n <;> simp

theorem rdId : Statement .rdId := of_encode rfl rfl fun _ => ⟨by decide, rfl⟩

theorem rdGctl : Statement .rdGctl := of_encode rfl rfl fun _ => ⟨by decide, rfl⟩

theorem wrGctl (w : Word) : Statement (.wrGctl w) := of_encode rfl rfl fun _ => ⟨by decide, rfl⟩

theorem rdErr : Statement .rdErr := of_encode rfl rfl fun _ => ⟨by decide, rfl⟩

theorem wrErr (w : Word) : Statement (.wrErr w) := of_encode rfl rfl fun _ => ⟨by decide, rfl⟩

theorem rdLutn : Statement .rdLutn := of_encode rfl rfl fun _ => ⟨by decide, rfl⟩

theorem wrLutn (w : Word) : Statement (.wrLutn w) := of_encode rfl rfl fun _ => ⟨by decide, rfl⟩

theorem rdPhidx0 : Statement .rdPhidx0 := of_encode rfl rfl fun _ => ⟨by decide, rfl⟩

theorem wrPhidx0 (w : Word) : Statement (.wrPhidx0 w) := of_encode rfl rfl fun _ => ⟨by decide, rfl⟩

theorem rdPhidx1 : Statement .rdPhidx1 := of_encode rfl rfl fun _ => ⟨by decide, rfl⟩

theorem wrPhidx1 (w : Word) : Statement (.wrPhidx1 w) := of_encode rfl rfl fun _ => ⟨by decide, rfl⟩

theorem rdPhidx2 : Statement .rdPhidx2 := of_encode rfl rfl fun _ => ⟨by decide, rfl⟩

theorem wrPhidx2 (w : Word) : Statement (.wrPhidx2 w) := of_encode rfl rfl fun _ => ⟨by decide, rfl⟩

theorem rdCh0Tbctl : Statement .rdCh0Tbctl := of_encode rfl rfl fun _ => ⟨by decide, rfl⟩

theorem wrCh0Tbctl (w : Word) : Statement (.wrCh0Tbctl w) := of_encode rfl rfl fun _ => ⟨by decide, rfl⟩

theorem rdCh0Tbprd : Statement .rdCh0Tbprd := of_encode rfl rfl fun _ => ⟨by decide, rfl⟩

theorem wrCh0Tbprd (w : Word) : Statement (.wrCh0Tbprd w) := of_encode rfl rfl fun _ => ⟨by decide, rfl⟩

theorem rdCh0Tbctr : Statement .rdCh0Tbctr := of_encode rfl rfl fun _ => ⟨by decide, rfl⟩

theorem rdCh0Cmpctl : Statement .rdCh0Cmpctl := of_encode rfl rfl fun _ => ⟨by decide, rfl⟩

theorem wrCh0Cmpctl (w : Word) : Statement (.wrCh0Cmpctl w) := of_encode rfl rfl fun _ => ⟨by decide, rfl⟩

theorem rdCh0Cmp : Statement .rdCh0Cmp := of_encode rfl rfl fun _ => ⟨by decide, rfl⟩

theorem wrCh0Cmp (w : Word) : Statement (.wrCh0Cmp w) := of_encode rfl rfl fun _ => ⟨by decide, rfl⟩

theorem rdCh0Cmpshd : Statement .rdCh0Cmpshd := of_encode rfl rfl fun _ => ⟨by decide, rfl⟩

theorem rdCh0Duty : Statement .rdCh0Duty := of_encode rfl rfl fun _ => ⟨by decide, rfl⟩

theorem wrCh0Duty (w : Word) : Statement (.wrCh0Duty w) := of_encode rfl rfl fun _ => ⟨by decide, rfl⟩

theorem rdCh0Aqctl : Statement .rdCh0Aqctl := of_encode rfl rfl fun _ => ⟨by decide, rfl⟩

theorem wrCh0Aqctl (w : Word) : Statement (.wrCh0Aqctl w) := of_encode rfl rfl fun _ => ⟨by decide, rfl⟩

theorem rdCh0Dbctl : Statement .rdCh0Dbctl := of_encode rfl rfl fun _ => ⟨by decide, rfl⟩

theorem wrCh0Dbctl (w : Word) : Statement (.wrCh0Dbctl w) := of_encode rfl rfl fun _ => ⟨by decide, rfl⟩

theorem rdCh0Dbred : Statement .rdCh0Dbred := of_encode rfl rfl fun _ => ⟨by decide, rfl⟩

theorem wrCh0Dbred (w : Word) : Statement (.wrCh0Dbred w) := of_encode rfl rfl fun _ => ⟨by decide, rfl⟩

theorem rdCh0Dbfed : Statement .rdCh0Dbfed := of_encode rfl rfl fun _ => ⟨by decide, rfl⟩

theorem wrCh0Dbfed (w : Word) : Statement (.wrCh0Dbfed w) := of_encode rfl rfl fun _ => ⟨by decide, rfl⟩

theorem rdCh0Outst : Statement .rdCh0Outst := of_encode rfl rfl fun _ => ⟨by decide, rfl⟩

theorem rdCh1Tbctl : Statement .rdCh1Tbctl := of_encode rfl rfl fun _ => ⟨by decide, rfl⟩

theorem wrCh1Tbctl (w : Word) : Statement (.wrCh1Tbctl w) := of_encode rfl rfl fun _ => ⟨by decide, rfl⟩

theorem rdCh1Tbprd : Statement .rdCh1Tbprd := of_encode rfl rfl fun _ => ⟨by decide, rfl⟩

theorem wrCh1Tbprd (w : Word) : Statement (.wrCh1Tbprd w) := of_encode rfl rfl fun _ => ⟨by decide, rfl⟩

theorem rdCh1Tbctr : Statement .rdCh1Tbctr := of_encode rfl rfl fun _ => ⟨by decide, rfl⟩

theorem rdCh1Cmpctl : Statement .rdCh1Cmpctl := of_encode rfl rfl fun _ => ⟨by decide, rfl⟩

theorem wrCh1Cmpctl (w : Word) : Statement (.wrCh1Cmpctl w) := of_encode rfl rfl fun _ => ⟨by decide, rfl⟩

theorem rdCh1Cmp : Statement .rdCh1Cmp := of_encode rfl rfl fun _ => ⟨by decide, rfl⟩

theorem wrCh1Cmp (w : Word) : Statement (.wrCh1Cmp w) := of_encode rfl rfl fun _ => ⟨by decide, rfl⟩

theorem rdCh1Cmpshd : Statement .rdCh1Cmpshd := of_encode rfl rfl fun _ => ⟨by decide, rfl⟩

theorem rdCh1Duty : Statement .rdCh1Duty := of_encode rfl rfl fun _ => ⟨by decide, rfl⟩

theorem wrCh1Duty (w : Word) : Statement (.wrCh1Duty w) := of_encode rfl rfl fun _ => ⟨by decide, rfl⟩

theorem rdCh1Aqctl : Statement .rdCh1Aqctl := of_encode rfl rfl fun _ => ⟨by decide, rfl⟩

theorem wrCh1Aqctl (w : Word) : Statement (.wrCh1Aqctl w) := of_encode rfl rfl fun _ => ⟨by decide, rfl⟩

theorem rdCh1Dbctl : Statement .rdCh1Dbctl := of_encode rfl rfl fun _ => ⟨by decide, rfl⟩

theorem wrCh1Dbctl (w : Word) : Statement (.wrCh1Dbctl w) := of_encode rfl rfl fun _ => ⟨by decide, rfl⟩

theorem rdCh1Dbred : Statement .rdCh1Dbred := of_encode rfl rfl fun _ => ⟨by decide, rfl⟩

theorem wrCh1Dbred (w : Word) : Statement (.wrCh1Dbred w) := of_encode rfl rfl fun _ => ⟨by decide, rfl⟩

theorem rdCh1Dbfed : Statement .rdCh1Dbfed := of_encode rfl rfl fun _ => ⟨by decide, rfl⟩

theorem wrCh1Dbfed (w : Word) : Statement (.wrCh1Dbfed w) := of_encode rfl rfl fun _ => ⟨by decide, rfl⟩

theorem rdCh1Outst : Statement .rdCh1Outst := of_encode rfl rfl fun _ => ⟨by decide, rfl⟩

theorem rdCh2Tbctl : Statement .rdCh2Tbctl := of_encode rfl rfl fun _ => ⟨by decide, rfl⟩

theorem wrCh2Tbctl (w : Word) : Statement (.wrCh2Tbctl w) := of_encode rfl rfl fun _ => ⟨by decide, rfl⟩

theorem rdCh2Tbprd : Statement .rdCh2Tbprd := of_encode rfl rfl fun _ => ⟨by decide, rfl⟩

theorem wrCh2Tbprd (w : Word) : Statement (.wrCh2Tbprd w) := of_encode rfl rfl fun _ => ⟨by decide, rfl⟩

theorem rdCh2Tbctr : Statement .rdCh2Tbctr := of_encode rfl rfl fun _ => ⟨by decide, rfl⟩

theorem rdCh2Cmpctl : Statement .rdCh2Cmpctl := of_encode rfl rfl fun _ => ⟨by decide, rfl⟩

theorem wrCh2Cmpctl (w : Word) : Statement (.wrCh2Cmpctl w) := of_encode rfl rfl fun _ => ⟨by decide, rfl⟩

theorem rdCh2Cmp : Statement .rdCh2Cmp := of_encode rfl rfl fun _ => ⟨by decide, rfl⟩

theorem wrCh2Cmp (w : Word) : Statement (.wrCh2Cmp w) := of_encode rfl rfl fun _ => ⟨by decide, rfl⟩

theorem rdCh2Cmpshd : Statement .rdCh2Cmpshd := of_encode rfl rfl fun _ => ⟨by decide, rfl⟩

theorem rdCh2Duty : Statement .rdCh2Duty := of_encode rfl rfl fun _ => ⟨by decide, rfl⟩

theorem wrCh2Duty (w : Word) : Statement (.wrCh2Duty w) := of_encode rfl rfl fun _ => ⟨by decide, rfl⟩

theorem rdCh2Aqctl : Statement .rdCh2Aqctl := of_encode rfl rfl fun _ => ⟨by decide, rfl⟩

theorem wrCh2Aqctl (w : Word) : Statement (.wrCh2Aqctl w) := of_encode rfl rfl fun _ => ⟨by decide, rfl⟩

theorem rdCh2Dbctl : Statement .rdCh2Dbctl := of_encode rfl rfl fun _ => ⟨by decide, rfl⟩

theorem wrCh2Dbctl (w : Word) : Statement (.wrCh2Dbctl w) := of_encode rfl rfl fun _ => ⟨by decide, rfl⟩

theorem rdCh2Dbred : Statement .rdCh2Dbred := of_encode rfl rfl fun _ => ⟨by decide, rfl⟩

theorem wrCh2Dbred (w : Word) : Statement (.wrCh2Dbred w) := of_encode rfl rfl fun _ => ⟨by decide, rfl⟩

theorem rdCh2Dbfed : Statement .rdCh2Dbfed := of_encode rfl rfl fun _ => ⟨by decide, rfl⟩

theorem wrCh2Dbfed (w : Word) : Statement (.wrCh2Dbfed w) := of_encode rfl rfl fun _ => ⟨by decide, rfl⟩

theorem rdCh2Outst : Statement .rdCh2Outst := of_encode rfl rfl fun _ => ⟨by decide, rfl⟩

theorem rdLut (i : LutIndex) : Statement (.rdLut i) := of_encode rfl rfl fun _ => lut_fits false i none rfl

theorem wrLut (i : LutIndex) (w : Word) : Statement (.wrLut i w) := of_encode rfl rfl fun _ => lut_fits true i (some w) rfl

theorem slverrSize0 (d : Option Word) (a : Addr) : Statement (.slverrSize0 d a) :=
  of_encode rfl rfl fun _ => by
    refine fits_of_bits rfl fun n hn => ?_
    interval_cases n <;> simp

theorem slverrSize1 (d : Option Word) (a : Addr) : Statement (.slverrSize1 d a) :=
  of_encode rfl rfl fun _ => by
    refine fits_of_bits rfl fun n hn => ?_
    interval_cases n <;> simp

theorem slverrSize3 (d : Option Word) (a : Addr) : Statement (.slverrSize3 d a) :=
  of_encode rfl rfl fun _ => by
    refine fits_of_bits rfl fun n hn => ?_
    interval_cases n <;> simp

theorem slverrAlign0 (d : Option Word) (a : Addr) : Statement (.slverrAlign0 d a) :=
  of_encode rfl rfl fun hw => by
    have b : a[0] = true := by
      have e : a.extractLsb' 0 1 = 1#1 := by simpa [Instr.wellFormed, Addr.isAlign0] using hw
      simpa using bit_of_field e (j := 0) (by omega)
    refine fits_of_bits rfl fun n hn => ?_
    interval_cases n <;> simp [b]

theorem slverrAlign1 (d : Option Word) (a : Addr) : Statement (.slverrAlign1 d a) :=
  of_encode rfl rfl fun hw => by
    have b : a[1] = true := by
      have e : a.extractLsb' 0 2 = 2#2 := by simpa [Instr.wellFormed, Addr.isAlign1] using hw
      simpa using bit_of_field e (j := 1) (by omega)
    refine fits_of_bits rfl fun n hn => ?_
    interval_cases n <;> simp [b]

theorem slverrUnmappedGlobalPage (d : Option Word) (a : Addr) : Statement (.slverrUnmappedGlobalPage d a) :=
  of_encode rfl rfl fun hw => by
    simp only [Instr.wellFormed, Addr.isUnmappedGlobalPage, Bool.and_eq_true, beq_iff_eq] at hw
    have al := aligned_bits hw.1.1
    have p := page_bits hw.1.2
    refine fits_of_bits rfl fun n hn => ?_
    interval_cases n <;> simp [al.1, al.2, p.1, p.2.1, p.2.2.1, p.2.2.2.1, p.2.2.2.2]

theorem slverrUnmappedChannelOffset (d : Option Word) (a : Addr) : Statement (.slverrUnmappedChannelOffset d a) :=
  of_encode rfl rfl fun hw => by
    simp only [Instr.wellFormed, Addr.isUnmappedChannelOffset, Bool.and_eq_true, beq_iff_eq] at hw
    have al := aligned_bits hw.1.1.1
    have p := page_bits hw.1.1.2
    refine fits_of_bits rfl fun n hn => ?_
    interval_cases n <;> simp [al.1, al.2, p.1, p.2.1, p.2.2.1, p.2.2.2.1, p.2.2.2.2]

theorem slverrUnmappedChannel3 (d : Option Word) (a : Addr) : Statement (.slverrUnmappedChannel3 d a) :=
  of_encode rfl rfl fun hw => by
    simp only [Instr.wellFormed, Addr.isUnmappedChannel3, Bool.and_eq_true, beq_iff_eq] at hw
    have al := aligned_bits hw.1.1
    have p := page_bits hw.1.2
    have q : a[6] = true := by simpa using bit_of_field hw.2 (j := 0) (by omega)
    have r : a[7] = true := by simpa using bit_of_field hw.2 (j := 1) (by omega)
    refine fits_of_bits rfl fun n hn => ?_
    interval_cases n <;> simp [al.1, al.2, p.1, p.2.1, p.2.2.1, p.2.2.2.1, p.2.2.2.2, q, r]

theorem slverrUnmappedPages2to15 (d : Option Word) (a : Addr) : Statement (.slverrUnmappedPages2to15 d a) :=
  of_encode rfl rfl fun hw => by
    simp only [Instr.wellFormed, Addr.isUnmappedPages2to15, Bool.and_eq_true, decide_eq_true_eq] at hw
    have al := aligned_bits hw.1.1
    have p := low_page_bit hw.2
    refine fits_of_bits rfl fun n hn => ?_
    interval_cases n <;> simp [al.1, al.2, p]

theorem slverrRoWrId (w : Word) : Statement (.slverrRoWrId w) := of_encode rfl rfl fun _ => ⟨by decide, rfl⟩

theorem slverrRoWrCh0Tbctr (w : Word) : Statement (.slverrRoWrCh0Tbctr w) := of_encode rfl rfl fun _ => ⟨by decide, rfl⟩

theorem slverrRoWrCh0Cmpshd (w : Word) : Statement (.slverrRoWrCh0Cmpshd w) := of_encode rfl rfl fun _ => ⟨by decide, rfl⟩

theorem slverrRoWrCh0Outst (w : Word) : Statement (.slverrRoWrCh0Outst w) := of_encode rfl rfl fun _ => ⟨by decide, rfl⟩

theorem slverrRoWrCh1Tbctr (w : Word) : Statement (.slverrRoWrCh1Tbctr w) := of_encode rfl rfl fun _ => ⟨by decide, rfl⟩

theorem slverrRoWrCh1Cmpshd (w : Word) : Statement (.slverrRoWrCh1Cmpshd w) := of_encode rfl rfl fun _ => ⟨by decide, rfl⟩

theorem slverrRoWrCh1Outst (w : Word) : Statement (.slverrRoWrCh1Outst w) := of_encode rfl rfl fun _ => ⟨by decide, rfl⟩

theorem slverrRoWrCh2Tbctr (w : Word) : Statement (.slverrRoWrCh2Tbctr w) := of_encode rfl rfl fun _ => ⟨by decide, rfl⟩

theorem slverrRoWrCh2Cmpshd (w : Word) : Statement (.slverrRoWrCh2Cmpshd w) := of_encode rfl rfl fun _ => ⟨by decide, rfl⟩

theorem slverrRoWrCh2Outst (w : Word) : Statement (.slverrRoWrCh2Outst w) := of_encode rfl rfl fun _ => ⟨by decide, rfl⟩

theorem reset : Statement .reset := of_internal rfl

theorem sample : Statement .sample := of_internal rfl

theorem tbTick (k : Ch) : Statement (.tbTick k) := of_internal rfl

theorem halfTick (k : Ch) : Statement (.halfTick k) := of_internal rfl

end Sys2Proof.Laws.RowBits
end

