-- ==== Sys2Proof/Laws/Stopped.lean ====
section
/-! SUPPORT. The prescaler count of a stopped channel is seen by nothing: runs that differ only in it show the
same observations, and a start makes it 0 (R162, R200). So whether R35's bound on EC binds a stopped
channel changes no observation (log entry 12). -/

namespace Sys2Proof.Machine

/-- `s` with the prescaler count of channel `k` replaced. -/
def State.withEc (s : State) (k : Ch) (e : BitVec 9) : State := s.modChan k fun c => { c with ec := e }

/-- Equal, or channel `k` is stopped and they differ only in its prescaler count. -/
def EcAlike (k : Ch) (s t : State) : Prop :=
  t = s ∨ ((s.chan k).run = false ∧ ∃ e, t = s.withEc k e)

/-- Two results that end in states alike in this sense. -/
def EcAlikeResult (k : Ch) (r r' : Result) : Prop :=
  ∃ u u', r = .next u ∧ r' = .next u' ∧ EcAlike k u u'

/-! ## Single channels -/

theorem State.withEc_chan (s : State) (k j : Ch) (e : BitVec 9) :
    (s.withEc k e).chan j = if j = k then { s.chan k with ec := e } else s.chan j := by
  simp [State.withEc, State.modChan_chan]

@[simp] theorem State.withEc_run (s : State) (k j : Ch) (e : BitVec 9) :
    ((s.withEc k e).chan j).run = (s.chan j).run := by
  rw [State.withEc_chan]
  split
  · rename_i h
    rw [h]
  · rfl

@[simp] theorem State.withEc_pgen (s : State) (k : Ch) (e : BitVec 9) :
    (s.withEc k e).pgen = s.pgen := rfl

/-- An update of channel `j` that passes the prescaler count through commutes with replacing it. -/
theorem State.withEc_modChan (s : State) (k j : Ch) (e : BitVec 9) {f : Channel → Channel}
    (hf : ∀ c, f { c with ec := e } = { f c with ec := e }) :
    (s.withEc k e).modChan j f = (s.modChan j f).withEc k e := by
  cases k <;> cases j <;> simp only [State.withEc, State.modChan, State.setChan, State.chan,
    PerCh.get, PerCh.set, hf]

/-- The channels after a write of GCTL: the count of a channel that stays stopped passes through, and a
start makes it 0 (R162). -/
theorem gctlChannel_withEc (w : Word) (s : State) (k j : Ch) (e : BitVec 9)
    (hr : (s.chan k).run = false) :
    gctlChannel w (s.withEc k e) j =
      if j = k ∧ gctlRun w k = false then { gctlChannel w s k with ec := e }
      else gctlChannel w s j := by
  have hc : (s.withEc k e).cfgerr = s.cfgerr := rfl
  unfold gctlChannel
  rw [State.withEc_chan, hc]
  by_cases hj : j = k
  · subst hj
    simp only [if_true, true_and, Channel.setRun, hr]
    cases gctlRun w j <;> rfl
  · simp [hj]

/-! ## The bus phase -/

theorem alike_respond {k : Ch} {e : BitVec 9} {s : State} {f : State → State} (r : BusResult)
    (hr : ((f s).chan k).run = false) (hf : f (s.withEc k e) = (f s).withEc k e) :
    EcAlikeResult k (.next ((f s).respond r)) (.next ((f (s.withEc k e)).respond r)) := by
  refine ⟨_, _, rfl, rfl, .inr ⟨by simpa using hr, e, ?_⟩⟩
  rw [hf]
  rfl

theorem readReg_alike {k : Ch} {e : BitVec 9} {s : State} {f : State → Word}
    (hr : (s.chan k).run = false) (hf : f (s.withEc k e) = f s) :
    EcAlikeResult k (readReg f s) (readReg f (s.withEc k e)) := by
  unfold readReg okay
  rw [hf]
  exact alike_respond (f := id) _ hr rfl

theorem acceptChannel_alike {α : Type} {k j : Ch} {e : BitVec 9} {s : State} {o : Option α}
    {upd : α → State → State} (hr : (s.chan k).run = false)
    (hk : ∀ x, ((upd x s).chan k).run = (s.chan k).run)
    (hu : ∀ x, upd x (s.withEc k e) = (upd x s).withEc k e) :
    EcAlikeResult k (acceptChannel j o upd s) (acceptChannel j o upd (s.withEc k e)) := by
  have hrej : EcAlikeResult k (rejectChannel j s) (rejectChannel j (s.withEc k e)) :=
    alike_respond (f := fun s => s.setCfgerr j) _ hr rfl
  unfold acceptChannel
  split
  · exact hrej
  · rw [State.withEc_run]
    split
    · exact hrej
    · exact alike_respond (f := upd _) _ ((hk _).trans hr) (hu _)

theorem acceptTable_alike {α : Type} {k : Ch} {e : BitVec 9} {s : State} {o : Option α}
    {upd : α → State → State} (hr : (s.chan k).run = false)
    (hk : ∀ x, ((upd x s).chan k).run = (s.chan k).run)
    (hu : ∀ x, upd x (s.withEc k e) = (upd x s).withEc k e) :
    EcAlikeResult k (acceptTable o upd s) (acceptTable o upd (s.withEc k e)) := by
  have hrej : EcAlikeResult k (rejectTable s) (rejectTable (s.withEc k e)) :=
    alike_respond (f := State.setLuterr) _ hr rfl
  unfold acceptTable
  split
  · exact hrej
  · rw [State.withEc_pgen]
    split
    · exact hrej
    · exact alike_respond (f := upd _) _ ((hk _).trans hr) (hu _)

theorem modChan_run (s : State) (k j : Ch) {f : Channel → Channel} (hf : ∀ c, (f c).run = c.run) :
    ((s.modChan j f).chan k).run = (s.chan k).run := by
  rw [State.modChan_chan]
  split
  · rename_i h
    rw [hf, h]
  · rfl

theorem setTbprd_withEc (s : State) (k j : Ch) (p : Tick) (e : BitVec 9) :
    State.setTbprd j p (s.withEc k e) = (State.setTbprd j p s).withEc k e := by
  unfold State.setTbprd State.clampCompareToPeriod
  rw [State.withEc_modChan _ _ _ _ (fun _ => rfl)]
  have hc : ∀ s : State, ((s.withEc k e).chan j).compareAbovePeriod =
      (s.chan j).compareAbovePeriod := by
    intro s
    rw [State.withEc_chan]
    split
    · rename_i h
      rw [h]
      rfl
    · rfl
  rw [hc]
  split
  · rw [State.withEc_modChan _ _ _ _ (fun _ => rfl)]
    rfl
  · rfl

theorem setTbprd_run (s : State) (k j : Ch) (p : Tick) :
    ((State.setTbprd j p s).chan k).run = (s.chan k).run := by
  rw [State.setTbprd_chan]
  split
  · rename_i h
    rw [h]
    rfl
  · rfl

theorem clampIf_withEc (s : State) (k j : Ch) (b : Bool) (e : BitVec 9) :
    (s.withEc k e).clampIf j b = (s.clampIf j b).withEc k e := by
  cases b <;> rfl

theorem dutyWrite_withEc (s : State) (k j : Ch) (w : Word) (e : BitVec 9) :
    (s.withEc k e).dutyWrite j w = (s.dutyWrite j w).withEc k e := by
  unfold State.dutyWrite
  rw [State.withEc_modChan _ _ _ _ (fun _ => rfl), clampIf_withEc]

theorem dutyWrite_run (s : State) (k j : Ch) (w : Word) :
    ((s.dutyWrite j w).chan k).run = (s.chan k).run := by
  unfold State.dutyWrite
  rw [State.clampIf_chan]
  exact modChan_run _ _ _ fun _ => rfl

theorem writeDuty_alike {k j : Ch} {e : BitVec 9} {s : State} (w : Word)
    (hr : (s.chan k).run = false) :
    EcAlikeResult k (writeDuty j w s) (writeDuty j w (s.withEc k e)) :=
  alike_respond (f := fun s => (s.dutyWrite j w).markWrote j) _ ((dutyWrite_run s k j w).trans hr)
    (congrArg (fun t => State.markWrote t j) (dutyWrite_withEc s k j w e))

theorem cmpBusWrite_withEc (s : State) (k j : Ch) (v : Tick) (e : BitVec 9) :
    State.cmpBusWrite j v (s.withEc k e) = (State.cmpBusWrite j v s).withEc k e := by
  have hp : ((s.withEc k e).chan j).prd = (s.chan j).prd := by
    rw [State.withEc_chan]
    split
    · rename_i h
      rw [h]
    · rfl
  unfold State.cmpBusWrite
  rw [State.withEc_modChan _ _ _ _ (fun _ => rfl), clampIf_withEc, hp]

theorem writeCmp_alike {k j : Ch} {e : BitVec 9} {s : State} (w : Word)
    (hr : (s.chan k).run = false) :
    EcAlikeResult k (writeCmp j w s) (writeCmp j w (s.withEc k e)) := by
  refine alike_respond (f := fun s => (State.cmpBusWrite j (cmpOperand w) s).markWrote j) _ ?_
    (congrArg (fun t => State.markWrote t j) (cmpBusWrite_withEc s k j _ e))
  show ((State.cmpBusWrite j (cmpOperand w) s).chan k).run = false
  unfold State.cmpBusWrite
  rw [State.clampIf_chan]
  exact (modChan_run s k j (f := fun c => c.cmpWrite (tickMin (cmpOperand w) c.prd))
    fun _ => rfl).trans hr

theorem writeGctl_alike {k : Ch} {e : BitVec 9} {s : State} (w : Word)
    (hr : (s.chan k).run = false) :
    EcAlikeResult k (execWrGctl w s) (execWrGctl w (s.withEc k e)) := by
  cases hg : gctlRun w k with
  | false =>
    refine alike_respond (f := fun s => s.gctlWrite w) _ ?_ ?_
    · rw [State.gctlWrite_chan]
      unfold gctlChannel Channel.setRun Channel.setOuten
      simp [hg]
    · have hch : PerCh.ofFn (gctlChannel w (s.withEc k e)) =
          (PerCh.ofFn (gctlChannel w s)).set k { gctlChannel w s k with ec := e } := by
        refine PerCh.ext_get fun j => ?_
        rw [PerCh.get_ofFn, gctlChannel_withEc w s k j e hr, PerCh.get_set, PerCh.get_ofFn]
        simp [hg]
      show { s.withEc k e with ch := PerCh.ofFn (gctlChannel w (s.withEc k e)), pgen := gctlPgen w } = _
      rw [hch]
      simp [State.withEc, State.modChan, State.setChan, State.gctlWrite, State.chan]
  | true =>
    have hch : PerCh.ofFn (gctlChannel w (s.withEc k e)) = PerCh.ofFn (gctlChannel w s) := by
      refine PerCh.ext_get fun j => ?_
      rw [PerCh.get_ofFn, PerCh.get_ofFn, gctlChannel_withEc w s k j e hr]
      simp [hg]
    refine ⟨_, _, rfl, rfl, .inl ?_⟩
    show State.respond { s.withEc k e with
      ch := PerCh.ofFn (gctlChannel w (s.withEc k e)), pgen := gctlPgen w } _ = _
    rw [hch]
    rfl

theorem readLut_alike {k : Ch} {e : BitVec 9} {s : State} (i : LutIndex)
    (hr : (s.chan k).run = false) :
    EcAlikeResult k (readLut i s) (readLut i (s.withEc k e)) := by
  have hl : (s.withEc k e).lut = s.lut := rfl
  unfold readLut okay lutRead
  rw [hl]
  split
  · exact alike_respond (f := id) _ hr rfl
  · exact alike_respond (f := State.countDraw) _ hr rfl

/-- Every bus operation treats two states alike alike. -/
theorem exec_alike {k : Ch} {e : BitVec 9} {s : State} {i : Instr} (hb : i.isBus = true)
    (hr : (s.chan k).run = false) : EcAlikeResult k (exec i s) (exec i (s.withEc k e)) := by
  cases i
  case reset | sample | tbTick | halfTick =>
    exact absurd hb Bool.false_ne_true
  case rdGctl | rdErr | rdLutn | rdPhidx0 | rdPhidx1 | rdPhidx2 | rdCh0Tbctl | rdCh0Tbprd |
      rdCh0Tbctr | rdCh0Cmpctl | rdCh0Cmp | rdCh0Cmpshd | rdCh0Duty | rdCh0Aqctl | rdCh0Dbctl |
      rdCh0Dbred | rdCh0Dbfed | rdCh0Outst | rdCh1Tbctl | rdCh1Tbprd | rdCh1Tbctr | rdCh1Cmpctl |
      rdCh1Cmp | rdCh1Cmpshd | rdCh1Duty | rdCh1Aqctl | rdCh1Dbctl | rdCh1Dbred | rdCh1Dbfed |
      rdCh1Outst | rdCh2Tbctl | rdCh2Tbprd | rdCh2Tbctr | rdCh2Cmpctl | rdCh2Cmp | rdCh2Cmpshd |
      rdCh2Duty | rdCh2Aqctl | rdCh2Dbctl | rdCh2Dbred | rdCh2Dbfed | rdCh2Outst =>
    refine readReg_alike hr ?_
    cases k <;> rfl
  case rdId =>
    exact readReg_alike (f := fun _ => Config.idValue) hr rfl
  case slverrSize0 | slverrSize1 | slverrSize3 | slverrAlign0 | slverrAlign1 |
      slverrUnmappedGlobalPage | slverrUnmappedChannelOffset | slverrUnmappedChannel3 |
      slverrUnmappedPages2to15 | slverrRoWrId | slverrRoWrCh0Tbctr | slverrRoWrCh0Cmpshd |
      slverrRoWrCh0Outst | slverrRoWrCh1Tbctr | slverrRoWrCh1Cmpshd | slverrRoWrCh1Outst |
      slverrRoWrCh2Tbctr | slverrRoWrCh2Cmpshd | slverrRoWrCh2Outst =>
    exact alike_respond (f := id) _ hr rfl
  case rdLut =>
    exact readLut_alike _ hr
  case wrGctl =>
    exact writeGctl_alike _ hr
  case wrErr =>
    exact alike_respond (f := fun s => s.clearFlags _) _ hr rfl
  case wrCh0Cmp | wrCh1Cmp | wrCh2Cmp =>
    exact writeCmp_alike _ hr
  case wrCh0Duty | wrCh1Duty | wrCh2Duty =>
    exact writeDuty_alike _ hr
  case wrLut =>
    exact acceptTable_alike (o := some _) (upd := fun v t => t.lutWrite _ v) hr (fun _ => rfl)
      fun _ => rfl
  case wrLutn =>
    exact acceptTable_alike (upd := State.setLutn) hr (fun _ => rfl) fun _ => rfl
  case wrPhidx0 | wrPhidx1 | wrPhidx2 =>
    exact acceptTable_alike (upd := State.setIdx _) hr (fun _ => rfl) fun _ => rfl
  case wrCh0Tbprd | wrCh1Tbprd | wrCh2Tbprd =>
    exact acceptChannel_alike (upd := State.setTbprd _) hr (fun _ => setTbprd_run _ _ _ _)
      fun _ => setTbprd_withEc _ _ _ _ _
  case wrCh0Tbctl | wrCh1Tbctl | wrCh2Tbctl =>
    exact acceptChannel_alike (upd := State.setTbctl _) hr (fun _ => modChan_run _ _ _ fun _ => rfl)
      fun _ => State.withEc_modChan _ _ _ _ fun _ => rfl
  case wrCh0Cmpctl | wrCh1Cmpctl | wrCh2Cmpctl =>
    exact acceptChannel_alike (upd := State.setImmed _) hr (fun _ => modChan_run _ _ _ fun _ => rfl)
      fun _ => State.withEc_modChan _ _ _ _ fun _ => rfl
  case wrCh0Aqctl | wrCh1Aqctl | wrCh2Aqctl =>
    exact acceptChannel_alike (upd := State.setAq _) hr (fun _ => modChan_run _ _ _ fun _ => rfl)
      fun _ => State.withEc_modChan _ _ _ _ fun _ => rfl
  case wrCh0Dbctl | wrCh1Dbctl | wrCh2Dbctl =>
    exact acceptChannel_alike (upd := State.setDbctl _) hr (fun _ => modChan_run _ _ _ fun _ => rfl)
      fun _ => State.withEc_modChan _ _ _ _ fun _ => rfl
  case wrCh0Dbred | wrCh1Dbred | wrCh2Dbred =>
    exact acceptChannel_alike (upd := State.setRed _) hr (fun _ => modChan_run _ _ _ fun _ => rfl)
      fun _ => State.withEc_modChan _ _ _ _ fun _ => rfl
  case wrCh0Dbfed | wrCh1Dbfed | wrCh2Dbfed =>
    exact acceptChannel_alike (upd := State.setFed _) hr (fun _ => modChan_run _ _ _ fun _ => rfl)
      fun _ => State.withEc_modChan _ _ _ _ fun _ => rfl

/-! ## The rest of a cycle -/

theorem samplePhase_withEc (s : State) (k p : Ch) (e : BitVec 9) :
    (s.withEc k e).samplePhase p = (s.samplePhase p).withEc k e := by
  have hl : ∀ u : State, lutRead ((u.idx).get p) (u.withEc k e) =
      ((lutRead (u.idx.get p) u).1, (lutRead (u.idx.get p) u).2.withEc k e) := by
    intro u
    have h : (u.withEc k e).lut = u.lut := rfl
    unfold lutRead
    rw [h]
    split <;> rfl
  have hc : ∀ u : State, (u.withEc k e).collide p = (u.collide p).withEc k e := by
    intro u
    have h : (u.withEc k e).wrote = u.wrote := rfl
    unfold State.collide
    rw [h]
    split <;> rfl
  have ha : (s.withEc k e).advance p = (s.advance p).withEc k e := rfl
  have hi : ((s.advance p).withEc k e).idx = (s.advance p).idx := rfl
  unfold State.samplePhase
  simp only [ha, hi, hl, hc, dutyWrite_withEc]

theorem samplePhase_run (s : State) (k p : Ch) :
    ((s.samplePhase p).chan k).run = (s.chan k).run := by
  rw [State.samplePhase_chan]
  split
  · rename_i h
    rw [h]
    rfl
  · rfl

theorem sampled_withEc (s : State) (k : Ch) (tick : Bool) (e : BitVec 9) :
    (s.withEc k e).sampled tick = (s.sampled tick).withEc k e := by
  unfold State.sampled
  rw [State.withEc_pgen]
  split
  · simp only [State.sampleStep, samplePhase_withEc]
  · rfl

theorem sampled_run (s : State) (k : Ch) (tick : Bool) :
    ((s.sampled tick).chan k).run = (s.chan k).run := by
  unfold State.sampled
  split
  · simp only [State.sampleStep, samplePhase_run]
  · rfl

theorem substeps_withEc {s : State} {k : Ch} (e : BitVec 9) (hr : (s.chan k).run = false) :
    (s.withEc k e).substeps = s.substeps.withEc k e := by
  have h : PerCh.ofFn (fun j => ((s.withEc k e).chan j).substep) =
      (PerCh.ofFn fun j => (s.chan j).substep).set k { s.chan k with ec := e } := by
    refine PerCh.ext_get fun j => ?_
    rw [PerCh.get_ofFn, PerCh.get_set, PerCh.get_ofFn, State.withEc_chan]
    split
    · exact Channel.substep_stopped hr
    · rfl
  have h' : (s.substeps.chan k) = s.chan k := by
    rw [State.substeps_chan, Channel.substep_stopped hr]
  show { s.withEc k e with ch := PerCh.ofFn fun j => ((s.withEc k e).chan j).substep } =
    s.substeps.setChan k { s.substeps.chan k with ec := e }
  rw [h, h']
  rfl

theorem substeps_run {s : State} {k : Ch} (hr : (s.chan k).run = false) :
    (s.substeps.chan k).run = false := by
  rw [State.substeps_chan, Channel.substep_stopped hr]
  exact hr

theorem pins_withEc (s : State) (k : Ch) (e : BitVec 9) : (s.withEc k e).pins = s.pins := by
  cases k <;> rfl

/-- The rest of a cycle keeps the states alike. -/
theorem afterBus_withEc {s : State} {k : Ch} (e : BitVec 9) (tick : Bool)
    (hr : (s.chan k).run = false) :
    ((s.afterBus tick).chan k).run = false ∧
      (s.withEc k e).afterBus tick = (s.afterBus tick).withEc k e := by
  have hu : ((s.sampled tick).chan k).run = false := (sampled_run s k tick).trans hr
  have hv := substeps_run hu
  refine ⟨?_, ?_⟩
  · rw [State.afterBus_chan, Channel.substep_stopped hu, Channel.substep_stopped hu]
    exact hu
  · have h1 : { (s.withEc k e).sampled tick |>.substeps with
        pinsRise := ((s.withEc k e).sampled tick).substeps.pins } =
        State.withEc { (s.sampled tick).substeps with
          pinsRise := (s.sampled tick).substeps.pins } k e := by
      rw [sampled_withEc, substeps_withEc e hu, pins_withEc]
      rfl
    have h2 := substeps_withEc (s := { (s.sampled tick).substeps with
      pinsRise := (s.sampled tick).substeps.pins }) e hv
    show { State.substeps { ((s.withEc k e).sampled tick).substeps with
      pinsRise := ((s.withEc k e).sampled tick).substeps.pins } with
      pinsFall := (State.substeps { ((s.withEc k e).sampled tick).substeps with
        pinsRise := ((s.withEc k e).sampled tick).substeps.pins }).pins } = _
    rw [h1, h2, pins_withEc]
    rfl

theorem afterBus_alike {k : Ch} {s t : State} (tick : Bool) (h : EcAlike k s t) :
    EcAlike k (s.afterBus tick) (t.afterBus tick) := by
  obtain rfl | ⟨hr, e, rfl⟩ := h
  · exact .inl rfl
  · obtain ⟨h1, h2⟩ := afterBus_withEc e tick hr
    exact .inr ⟨h1, e, h2⟩

/-- A cycle keeps two states alike. -/
theorem step_alike {k : Ch} {s : State} (e : BitVec 9) (hr : (s.chan k).run = false) :
    EcAlikeResult k (step s) (step (s.withEc k e)) := by
  have hi : (s.withEc k e).input = s.input := rfl
  have hbegin : (s.withEc k e).beginCycle = s.beginCycle.withEc k e := rfl
  have hrb : (s.beginCycle.chan k).run = false := hr
  unfold step cycle
  rw [hi, hbegin]
  split
  · exact ⟨_, _, rfl, rfl, .inl rfl⟩
  · have hbus : EcAlikeResult k (runOp s.input.transaction s.beginCycle)
        (runOp s.input.transaction (s.beginCycle.withEc k e)) := by
      unfold CycleInput.transaction
      split
      · exact exec_alike (decode_isBus _ _) hrb
      · exact ⟨_, _, rfl, rfl, .inr ⟨hrb, e, rfl⟩⟩
    obtain ⟨u, u', hu, hu', ha⟩ := hbus
    rw [hu, hu']
    exact ⟨_, _, afterBus_eq _ u, afterBus_eq _ u', afterBus_alike _ ha⟩

theorem observation_alike {k : Ch} {s t : State} (h : EcAlike k s t) :
    t.observation = s.observation := by
  obtain rfl | ⟨-, e, rfl⟩ := h <;> rfl

/-- The prescaler count of a stopped channel is never observed: whatever it is replaced by, every run
shows the same responses and the same pins. -/
theorem observe_withEc (n : Nat) {k : Ch} {s : State} (e : BitVec 9) (hr : (s.chan k).run = false) :
    observe n (s.withEc k e) = observe n s := by
  induction n generalizing s e with
  | zero => rfl
  | succ n ih =>
    obtain ⟨u, u', hu, hu', ha⟩ := step_alike e hr
    unfold observe
    rw [hu, hu']
    dsimp only
    rw [observation_alike ha]
    obtain rfl | ⟨hr', e', rfl⟩ := ha
    · rfl
    · rw [ih e' hr']

end Sys2Proof.Machine
end

