-- ==== Sys2Proof/Tests/Slice0.lean ====
section
/-! SUPPORT. Small tests: ill-formed terms that WellFormed refuses, the decoding of every header written
out from spec/opcode_table.json, single operations and single steps with values from
spec/95_test_vectors.md and the examples of the rules, and for every obligation with hypotheses a
concrete state and operands that meet them. -/

namespace Sys2Proof.Tests

open Sys2Proof Sys2Proof.Machine

/-! ## Helpers -/

/-- The next state of a result. -/
def after (r : Result) : State :=
  match r with
  | .next t => t
  | .fault _ => State.reset
  | .refused _ => State.reset

/-- The state after one operation. -/
def ran (i : Instr) (s : State) : State := after (exec i s)

/-- The reset state with channel 0 replaced. -/
def ch0 (c : Channel) : State := State.reset.setChan .c0 c

/-- The reset state with one cycle's input coming. -/
def withInput (s : State) (x : CycleInput) : State := { s with inputs := [x] }

/-- The reset state with PGEN = 1. -/
def sequencing : State := { State.reset with pgen := true }

/-- A channel that runs Up with PRD = 4, between its ticks. -/
def running : Channel := { Channel.reset with run := true, prd := 4, ctr := 2, cmps := 2, cmpa := 2 }

/-- A channel at its first tick after a start, with the given mode, period and compare value. -/
def started (m : Mode) (p c : Tick) : Channel :=
  { Channel.reset with run := true, fresh := true, mode := m, prd := p, cmps := c }

/-! ## WellFormed refuses an ill-formed term, one for each check -/

theorem test_wf_align0_even : (Instr.slverrAlign0 none 2).wellFormed = false := by decide
theorem test_wf_align1_odd : (Instr.slverrAlign1 none 3).wellFormed = false := by decide
theorem test_wf_align1_aligned : (Instr.slverrAlign1 none 4).wellFormed = false := by decide
theorem test_wf_global_mapped :
    (Instr.slverrUnmappedGlobalPage none 0x18).wellFormed = false := by decide
theorem test_wf_global_misaligned :
    (Instr.slverrUnmappedGlobalPage none 0x1D).wellFormed = false := by decide
theorem test_wf_global_other_page :
    (Instr.slverrUnmappedGlobalPage none 0x11C).wellFormed = false := by decide
theorem test_wf_channel_offset_mapped :
    (Instr.slverrUnmappedChannelOffset none 0x12C).wellFormed = false := by decide
theorem test_wf_channel_offset_channel3 :
    (Instr.slverrUnmappedChannelOffset none 0x1F0).wellFormed = false := by decide
theorem test_wf_channel_offset_misaligned :
    (Instr.slverrUnmappedChannelOffset none 0x131).wellFormed = false := by decide
theorem test_wf_channel_offset_other_page :
    (Instr.slverrUnmappedChannelOffset none 0x030).wellFormed = false := by decide
theorem test_wf_channel3_other_channel :
    (Instr.slverrUnmappedChannel3 none 0x180).wellFormed = false := by decide
theorem test_wf_channel3_misaligned :
    (Instr.slverrUnmappedChannel3 none 0x1C2).wellFormed = false := by decide
theorem test_wf_channel3_other_page :
    (Instr.slverrUnmappedChannel3 none 0x2C0).wellFormed = false := by decide
theorem test_wf_pages_low : (Instr.slverrUnmappedPages2to15 none 0x1FC).wellFormed = false := by
  decide
theorem test_wf_pages_table : (Instr.slverrUnmappedPages2to15 none 0x1000).wellFormed = false := by
  decide
theorem test_wf_pages_misaligned :
    (Instr.slverrUnmappedPages2to15 none 0x201).wellFormed = false := by decide

/-! ## Every header of the table, written out, decodes to its operation -/

theorem test_decode_rd_global (w : Word) :
    decode 0x4000#16 w = .rdId ∧
    decode 0x4004#16 w = .rdGctl ∧
    decode 0x4008#16 w = .rdErr ∧
    decode 0x400C#16 w = .rdLutn ∧
    decode 0x4010#16 w = .rdPhidx0 ∧
    decode 0x4014#16 w = .rdPhidx1 ∧
    decode 0x4018#16 w = .rdPhidx2 :=
  ⟨rfl, rfl, rfl, rfl, rfl, rfl, rfl⟩

theorem test_decode_wr_global (w : Word) :
    decode 0xC004#16 w = .wrGctl w ∧
    decode 0xC008#16 w = .wrErr w ∧
    decode 0xC00C#16 w = .wrLutn w ∧
    decode 0xC010#16 w = .wrPhidx0 w ∧
    decode 0xC014#16 w = .wrPhidx1 w ∧
    decode 0xC018#16 w = .wrPhidx2 w :=
  ⟨rfl, rfl, rfl, rfl, rfl, rfl⟩

theorem test_decode_rd_ch0 (w : Word) :
    decode 0x4100#16 w = .rdCh0Tbctl ∧
    decode 0x4104#16 w = .rdCh0Tbprd ∧
    decode 0x4108#16 w = .rdCh0Tbctr ∧
    decode 0x410C#16 w = .rdCh0Cmpctl ∧
    decode 0x4110#16 w = .rdCh0Cmp ∧
    decode 0x4114#16 w = .rdCh0Cmpshd ∧
    decode 0x4118#16 w = .rdCh0Duty ∧
    decode 0x411C#16 w = .rdCh0Aqctl ∧
    decode 0x4120#16 w = .rdCh0Dbctl ∧
    decode 0x4124#16 w = .rdCh0Dbred ∧
    decode 0x4128#16 w = .rdCh0Dbfed ∧
    decode 0x412C#16 w = .rdCh0Outst :=
  ⟨rfl, rfl, rfl, rfl, rfl, rfl, rfl, rfl, rfl, rfl, rfl, rfl⟩

theorem test_decode_wr_ch0 (w : Word) :
    decode 0xC100#16 w = .wrCh0Tbctl w ∧
    decode 0xC104#16 w = .wrCh0Tbprd w ∧
    decode 0xC10C#16 w = .wrCh0Cmpctl w ∧
    decode 0xC110#16 w = .wrCh0Cmp w ∧
    decode 0xC118#16 w = .wrCh0Duty w ∧
    decode 0xC11C#16 w = .wrCh0Aqctl w ∧
    decode 0xC120#16 w = .wrCh0Dbctl w ∧
    decode 0xC124#16 w = .wrCh0Dbred w ∧
    decode 0xC128#16 w = .wrCh0Dbfed w :=
  ⟨rfl, rfl, rfl, rfl, rfl, rfl, rfl, rfl, rfl⟩

theorem test_decode_rd_ch1 (w : Word) :
    decode 0x4140#16 w = .rdCh1Tbctl ∧
    decode 0x4144#16 w = .rdCh1Tbprd ∧
    decode 0x4148#16 w = .rdCh1Tbctr ∧
    decode 0x414C#16 w = .rdCh1Cmpctl ∧
    decode 0x4150#16 w = .rdCh1Cmp ∧
    decode 0x4154#16 w = .rdCh1Cmpshd ∧
    decode 0x4158#16 w = .rdCh1Duty ∧
    decode 0x415C#16 w = .rdCh1Aqctl ∧
    decode 0x4160#16 w = .rdCh1Dbctl ∧
    decode 0x4164#16 w = .rdCh1Dbred ∧
    decode 0x4168#16 w = .rdCh1Dbfed ∧
    decode 0x416C#16 w = .rdCh1Outst :=
  ⟨rfl, rfl, rfl, rfl, rfl, rfl, rfl, rfl, rfl, rfl, rfl, rfl⟩

theorem test_decode_wr_ch1 (w : Word) :
    decode 0xC140#16 w = .wrCh1Tbctl w ∧
    decode 0xC144#16 w = .wrCh1Tbprd w ∧
    decode 0xC14C#16 w = .wrCh1Cmpctl w ∧
    decode 0xC150#16 w = .wrCh1Cmp w ∧
    decode 0xC158#16 w = .wrCh1Duty w ∧
    decode 0xC15C#16 w = .wrCh1Aqctl w ∧
    decode 0xC160#16 w = .wrCh1Dbctl w ∧
    decode 0xC164#16 w = .wrCh1Dbred w ∧
    decode 0xC168#16 w = .wrCh1Dbfed w :=
  ⟨rfl, rfl, rfl, rfl, rfl, rfl, rfl, rfl, rfl⟩

theorem test_decode_rd_ch2 (w : Word) :
    decode 0x4180#16 w = .rdCh2Tbctl ∧
    decode 0x4184#16 w = .rdCh2Tbprd ∧
    decode 0x4188#16 w = .rdCh2Tbctr ∧
    decode 0x418C#16 w = .rdCh2Cmpctl ∧
    decode 0x4190#16 w = .rdCh2Cmp ∧
    decode 0x4194#16 w = .rdCh2Cmpshd ∧
    decode 0x4198#16 w = .rdCh2Duty ∧
    decode 0x419C#16 w = .rdCh2Aqctl ∧
    decode 0x41A0#16 w = .rdCh2Dbctl ∧
    decode 0x41A4#16 w = .rdCh2Dbred ∧
    decode 0x41A8#16 w = .rdCh2Dbfed ∧
    decode 0x41AC#16 w = .rdCh2Outst :=
  ⟨rfl, rfl, rfl, rfl, rfl, rfl, rfl, rfl, rfl, rfl, rfl, rfl⟩

theorem test_decode_wr_ch2 (w : Word) :
    decode 0xC180#16 w = .wrCh2Tbctl w ∧
    decode 0xC184#16 w = .wrCh2Tbprd w ∧
    decode 0xC18C#16 w = .wrCh2Cmpctl w ∧
    decode 0xC190#16 w = .wrCh2Cmp w ∧
    decode 0xC198#16 w = .wrCh2Duty w ∧
    decode 0xC19C#16 w = .wrCh2Aqctl w ∧
    decode 0xC1A0#16 w = .wrCh2Dbctl w ∧
    decode 0xC1A4#16 w = .wrCh2Dbred w ∧
    decode 0xC1A8#16 w = .wrCh2Dbfed w :=
  ⟨rfl, rfl, rfl, rfl, rfl, rfl, rfl, rfl, rfl⟩

theorem test_decode_slverr_ro (w : Word) :
    decode 0xC000#16 w = .slverrRoWrId w ∧
    decode 0xC108#16 w = .slverrRoWrCh0Tbctr w ∧
    decode 0xC114#16 w = .slverrRoWrCh0Cmpshd w ∧
    decode 0xC12C#16 w = .slverrRoWrCh0Outst w ∧
    decode 0xC148#16 w = .slverrRoWrCh1Tbctr w ∧
    decode 0xC154#16 w = .slverrRoWrCh1Cmpshd w ∧
    decode 0xC16C#16 w = .slverrRoWrCh1Outst w ∧
    decode 0xC188#16 w = .slverrRoWrCh2Tbctr w ∧
    decode 0xC194#16 w = .slverrRoWrCh2Cmpshd w ∧
    decode 0xC1AC#16 w = .slverrRoWrCh2Outst w :=
  ⟨rfl, rfl, rfl, rfl, rfl, rfl, rfl, rfl, rfl, rfl⟩

/-- The table window: the index is header bits 11 to 2 (R116, B12). -/
theorem test_decode_lut (w : Word) :
    decode 0x5000#16 w = .rdLut 0 ∧ decode 0x5004#16 w = .rdLut 1 ∧ decode 0x5FFC#16 w = .rdLut 1023 ∧
    decode 0xD000#16 w = .wrLut 0 w ∧ decode 0xD800#16 w = .wrLut 512 w ∧
    decode 0xDFFC#16 w = .wrLut 1023 w :=
  ⟨rfl, rfl, rfl, rfl, rfl, rfl⟩

/-- The sizes other than a word, whatever the address (R391, B5, B11). -/
theorem test_decode_size (w : Word) :
    decode 0x0006#16 w = .slverrSize0 none 6 ∧ decode 0x8000#16 w = .slverrSize0 (some w) 0 ∧
    decode 0x2104#16 w = .slverrSize1 none 0x104 ∧ decode 0x6004#16 w = .slverrSize3 none 4 ∧
    decode 0xFFFF#16 w = .slverrSize3 (some w) 0x1FFF :=
  ⟨rfl, rfl, rfl, rfl, rfl⟩

/-- The misaligned word addresses (R391, B6). -/
theorem test_decode_align (w : Word) :
    decode 0x4001#16 w = .slverrAlign0 none 1 ∧ decode 0x4003#16 w = .slverrAlign0 none 3 ∧
    decode 0x4006#16 w = .slverrAlign1 none 6 ∧ decode 0xD002#16 w = .slverrAlign1 (some w) 0x1002 :=
  ⟨rfl, rfl, rfl, rfl⟩

/-- The holes of the address map, at their edges (R56, R81, B7, B9, B10). -/
theorem test_decode_unmapped (w : Word) :
    decode 0x401C#16 w = .slverrUnmappedGlobalPage none 0x1C ∧
    decode 0xC0FC#16 w = .slverrUnmappedGlobalPage (some w) 0xFC ∧
    decode 0x4130#16 w = .slverrUnmappedChannelOffset none 0x130 ∧
    decode 0xC1BC#16 w = .slverrUnmappedChannelOffset (some w) 0x1BC ∧
    decode 0x41C0#16 w = .slverrUnmappedChannel3 none 0x1C0 ∧
    decode 0xC1FC#16 w = .slverrUnmappedChannel3 (some w) 0x1FC ∧
    decode 0x4200#16 w = .slverrUnmappedPages2to15 none 0x200 ∧
    decode 0xCFFC#16 w = .slverrUnmappedPages2to15 (some w) 0xFFC :=
  ⟨rfl, rfl, rfl, rfl, rfl, rfl, rfl, rfl⟩

/-- A table word of 16 bits is a header with a data word of zeros; one of 48 has its data word above. -/
theorem test_decode_table_word :
    decodeTableWord 16 0xC104 = some (.wrCh0Tbprd 0) ∧
    decodeTableWord 48 0x000000FAC104 = some (.wrCh0Tbprd 250) ∧
    decodeTableWord 16 0x4000 = some .rdId ∧ decodeTableWord 8 0x40 = none := by decide

/-- Bytes that end before the data word of a write spell nothing. -/
theorem test_decode_short :
    decodeBytes [0x04, 0xC0, 1] = .error .shortData ∧ decodeBytes [0x04] = .error .shortHeader ∧
    decodeBytes [0x04, 0x40, 7] = .ok (.rdGctl, [7]) := by
  refine ⟨rfl, rfl, rfl⟩

/-! ## One operation, values from spec/95_test_vectors.md and the examples of the rules -/

/-- B1, B2: ID, LUTN and the indices after reset. -/
theorem test_read_reset_values :
    (ran .rdId State.reset).bus = .okay 0x50574D01 ∧ (ran .rdLutn State.reset).bus = .okay 0x400 ∧
    (ran .rdPhidx0 State.reset).bus = .okay 0 ∧ (ran .rdPhidx1 State.reset).bus = .okay 0x155 ∧
    (ran .rdPhidx2 State.reset).bus = .okay 0x2AB := by decide

/-- B3: GCTL and ERR read 0 after reset. -/
theorem test_read_gctl_err_reset :
    (ran .rdGctl State.reset).bus = .okay 0 ∧ (ran .rdErr State.reset).bus = .okay 0 := by decide

/-- B4: every defined GCTL bit is set and the reserved ones are ignored. -/
theorem test_gctl_all_ones :
    (ran .rdGctl (ran (.wrGctl 0xFFFFFFFF) State.reset)).bus = .okay 0x00070107 := by decide

/-- B13: MODE = 3 is rejected; the flag survives a 0 write to ERR and is cleared by a 1. -/
theorem test_err_write_one_to_clear :
    (ran .rdErr (ran (.wrErr 0) (ran (.wrCh0Tbctl 3) State.reset))).bus = .okay 1 ∧
    (ran .rdErr (ran (.wrErr 1) (ran (.wrCh0Tbctl 3) State.reset))).bus = .okay 0 := by decide

/-- B14: OUTEN is refused while the configuration error is flagged. -/
theorem test_outen_refused :
    (ran .rdGctl (ran (.wrGctl 0x10000) (ran (.wrCh0Tbctl 3) State.reset))).bus = .okay 0 := by decide

/-- B15: an OUTEN bit that is 1 stays 1. -/
theorem test_outen_stays :
    (ran .rdGctl (ran (.wrGctl 0x10000) (ran (.wrCh0Tbctl 3)
      (ran (.wrGctl 0x10000) State.reset)))).bus = .okay 0x10000 := by decide

/-- R163: a rejected TBPRD write to channel 1 reads as ERR = 2. -/
theorem test_err_channel1 :
    (ran .rdErr (ran (.wrCh1Tbprd 0x10000) State.reset)).bus = .okay 2 := by decide

/-- R202: TBCTL reads back MODE and CLKDIV. -/
theorem test_tbctl_read_back :
    (ran .rdCh0Tbctl (ran (.wrCh0Tbctl 0x302) State.reset)).bus = .okay 0x302 := by decide

/-- R201: CTR = 4 going down reads as 0x0001_0004. -/
theorem test_tbctr_read :
    (ran .rdCh0Tbctr (ch0 { running with ctr := 4, dir := .down })).bus = .okay 0x00010004 := by
  decide

/-- T10: a shorter period clamps the compare registers and flags it. -/
theorem test_tbprd_clamps :
    (ran .rdErr (ran (.wrCh0Tbprd 5) (ch0 { Channel.reset with prd := 10, cmps := 10 }))).bus =
      .okay 0x10 ∧
    ((ran (.wrCh0Tbprd 5) (ch0 { Channel.reset with prd := 10, cmps := 10 })).chan .c0).cmps = 5 := by
  decide

/-- T9: a running channel keeps its period and flags the write. -/
theorem test_tbprd_running :
    ((ran (.wrCh0Tbprd 8) (ch0 running)).chan .c0).prd = 4 ∧
    (ran (.wrCh0Tbprd 8) (ch0 running)).cfgerr.get .c0 = true := by decide

/-- K2: the compare value is the high half of CMP, clamped to PRD. -/
theorem test_cmp_clamps :
    (ran .rdCh0Cmpshd (ran (.wrCh0Cmp 0x0032FFFF) (ch0 { Channel.reset with prd := 250 }))).bus =
      .okay 0x00320000 ∧
    (ran .rdErr (ran (.wrCh0Cmp 0x01000000) (ch0 { Channel.reset with prd := 250 }))).bus =
      .okay 0x10 := by decide

/-- K4: with IMMED = 1 the active value follows at once. -/
theorem test_cmp_immediate :
    (ran .rdCh2Cmp (ran (.wrCh2Cmp 0x00020000) (State.reset.setChan .c2
      { Channel.reset with prd := 4, immed := true }))).bus = .okay 0x00020000 := by decide

/-- K5: DUTY reads back as written; the ratio below 0 is clamped and flagged. -/
theorem test_duty_read_back :
    (ran .rdCh0Duty (ran (.wrCh0Duty 0xFFFF0000) (ch0 { Channel.reset with prd := 9 }))).bus =
      .okay 0xFFFF0000 ∧
    (ran (.wrCh0Duty 0xFFFF0000) (ch0 { Channel.reset with prd := 9 })).clamp.get .c0 = true := by
  decide

/-- K1: conversions at the edges, Up, Down and UpDown. -/
theorem test_convert :
    convert 0x8000 .up 250 = (125, false) ∧ convert 0x8000 .down 250 = (126, false) ∧
    convert 0xC000 .upDown 250 = (188, false) ∧ convert 0x10000 .down 4 = (4, false) ∧
    convert 0x10001 .up 4 = (4, true) ∧ convert 0xFFFFFFFF .up 65535 = (0, true) ∧
    convert 1 .up 65535 = (1, false) := by decide

/-- R230, R231: CMPCTL. -/
theorem test_cmpctl :
    (ran .rdCh1Cmpctl (ran (.wrCh1Cmpctl 1) State.reset)).bus = .okay 1 ∧
    (ran .rdErr (ran (.wrCh1Cmpctl 2) State.reset)).bus = .okay 2 := by decide

/-- Q12, Q13: AQCTL. -/
theorem test_aqctl :
    (ran .rdCh0Aqctl (ran (.wrCh0Aqctl 0xFFFF) State.reset)).bus = .okay 0xFFFF ∧
    (ran .rdErr (ran (.wrCh0Aqctl 0x10000) State.reset)).bus = .okay 1 := by decide

/-- DT4: DBCTL. -/
theorem test_dbctl :
    (ran .rdCh0Dbctl (ran (.wrCh0Dbctl 9) State.reset)).bus = .okay 9 ∧
    (ran .rdErr (ran (.wrCh0Dbctl 2) State.reset)).bus = .okay 1 ∧
    (ran .rdErr (ran (.wrCh0Dbctl 0x10) State.reset)).bus = .okay 1 := by decide

/-- R311, R315, DT4: the delays. -/
theorem test_delays :
    (ran .rdCh0Dbred (ran (.wrCh0Dbred 25) State.reset)).bus = .okay 25 ∧
    (ran .rdCh2Dbfed (ran (.wrCh2Dbfed 7) State.reset)).bus = .okay 7 ∧
    (ran .rdErr (ran (.wrCh0Dbred 0x10000) State.reset)).bus = .okay 1 := by decide

/-- DT6: QA = 1, OUT_A = 1 and PWM_A = 1 read as OUTST = 0x15. -/
theorem test_outst :
    (ran .rdCh0Outst (ch0 { running with qa := true, dben := true, red := 1, fed := 1, dtc := 1,
                                         outen := true })).bus = .okay 0x15 := by decide

/-- R353: the start indices of N = 1000, and the rejection of N = 1. -/
theorem test_lutn :
    (ran (.wrLutn 1000) State.reset).idx = { c0 := 0, c1 := 333, c2 := 667 } ∧
    (ran .rdErr (ran (.wrLutn 1) State.reset)).bus = .okay 8 := by decide

/-- R356: an index at N is rejected, one below is taken. -/
theorem test_phidx :
    (ran .rdPhidx1 (ran (.wrPhidx1 1023) State.reset)).bus = .okay 1023 ∧
    (ran .rdErr (ran (.wrPhidx2 1024) State.reset)).bus = .okay 8 := by decide

/-- B12: the last table entry. -/
theorem test_lut :
    (ran (.rdLut 1023) (ran (.wrLut 1023 7) State.reset)).bus = .okay 7 ∧
    (ran .rdErr (ran (.wrLut 1023 7) sequencing)).bus = .okay 8 := by decide

/-- B5 to B11: an error response changes nothing. -/
theorem test_slverr :
    exec (.slverrSize0 none 6) State.reset = .next (State.reset.respond (.slverr .size)) ∧
    exec (.slverrAlign1 none 6) State.reset = .next (State.reset.respond (.slverr .align)) ∧
    exec (.slverrUnmappedChannel3 none 0x1C0) State.reset =
      .next (State.reset.respond (.slverr .unmapped)) ∧
    exec (.slverrRoWrCh0Tbctr 5) State.reset = .next (State.reset.respond (.slverr .ro)) :=
  ⟨rfl, rfl, rfl, rfl⟩

/-! ## The internal operations -/

/-- T1, T2, T3: the first tick after a start. -/
theorem test_tb_tick_start :
    ((ran (.tbTick .c0) (ch0 (started .up 4 2))).chan .c0).ctr = 0 ∧
    ((ran (.tbTick .c0) (ch0 (started .down 4 2))).chan .c0).ctr = 4 ∧
    ((ran (.tbTick .c0) (ch0 (started .down 4 2))).chan .c0).dir = .down ∧
    ((ran (.tbTick .c0) (ch0 (started .upDown 4 2))).chan .c0).cmpa = 2 := by decide

/-- T3, Q2: UpDown turns at PRD; Toggle on the up-count match. -/
theorem test_tb_tick_turns :
    ((ran (.tbTick .c0) (ch0 { running with mode := .upDown, ctr := 3 })).chan .c0).ctr = 4 ∧
    ((ran (.tbTick .c0) (ch0 { running with mode := .upDown, ctr := 3 })).chan .c0).dir = .down ∧
    ((ran (.tbTick .c0) (ch0 { running with ctr := 1, aq := 0x30 })).chan .c0).qa = true := by decide

/-- R313: a half tick ages the counter, which saturates at 65536. -/
theorem test_half_tick :
    ((ran (.halfTick .c0) (ch0 { running with dtc := 3 })).chan .c0).dtc = 4 ∧
    ((ran (.halfTick .c0) (ch0 { running with dtc := 65536 })).chan .c0).dtc = 65536 := by decide

/-- A table of two entries, 0.5 and 1.0, with all three phases at index 0. -/
def table2 : State :=
  { (State.reset.lutWrite 0 0x8000).lutWrite 1 0x10000 with
    lutn := 2, idx := PerCh.all 0, pgen := true }

/-- R358: a sample step advances first and feeds the entry it reaches. -/
theorem test_sample :
    (ran .sample table2).idx = PerCh.all 1 ∧ ((ran .sample table2).chan .c2).duty = 0x10000 ∧
    (ran .sample { table2 with wrote := some .c1 }).coll.get .c1 = true := by decide

/-- R430: a reset restores the indices and clears the table and the flags. -/
theorem test_reset :
    (ran .reset table2).idx = State.reset.idx ∧ (ran .reset table2).lut = [] ∧
    (ran .reset (State.reset.setCfgerr .c1)).cfgerr.get .c1 = false := by decide

/-! ## One step -/

/-- A write of GCTL starts channel 0 and its first tick falls in the same cycle (R162, R196). -/
theorem test_step_start :
    ((after (step (withInput (ch0 { Channel.reset with mode := .down, prd := 4 })
      (CycleInput.ofHeader 0xC004 1)))).chan .c0).ctr = 4 := by decide

/-- A step of a word presented by `withFetchWord` runs it. -/
theorem test_step_fetch :
    (after (step (State.reset.withFetchWord 16 0x4000))).bus = .okay 0x50574D01 := by decide

/-- RST = 1 wins over the transaction (R430). -/
theorem test_step_reset :
    (after (step (withInput sequencing
      { CycleInput.ofHeader 0x4000 0 with rst := true }))).bus = .inReset ∧
    (after (step (withInput sequencing
      { CycleInput.ofHeader 0x4000 0 with rst := true }))).pgen = false := by decide

/-- The pins follow QA and OUTEN in both samples, with the dead time of row 1 of R322 (RED = FED = 0). -/
theorem test_step_pins :
    (after (step (ch0 { started .up 4 2 with aq := 0x12, outen := true, dben := true }))).pinsRise.get
      .c0 = { a := true, b := false } ∧
    (after (step (ch0 { started .up 4 2 with aq := 0x12, outen := true, dben := true }))).pinsFall.get
      .c0 = { a := true, b := false } := by decide

/-- T11, DT5, K7: the host's arithmetic. -/
theorem test_host :
    dtTicks (1 / 2000000) 50000000 .halfCycle = 50 ∧ dutyCode (.real (1 / 2)) = 0x8000 ∧
    dutyCode (.real (-1 / 1000)) = 0xFFFFFFBE ∧ dutyCode .nan = 0x80000000 := by decide +kernel

/-- R364's table of 4 entries. -/
theorem test_table_code_4 :
    IsTableCode 4 0 32768 ∧ IsTableCode 4 1 65536 ∧ IsTableCode 4 2 32768 ∧ IsTableCode 4 3 0 := by
  have h1 : 2 * Real.pi * ((1 : ℕ) : ℝ) / ((4 : ℕ) : ℝ) = Real.pi / 2 := by push_cast; ring
  have h2 : 2 * Real.pi * ((2 : ℕ) : ℝ) / ((4 : ℕ) : ℝ) = Real.pi := by push_cast; ring
  have h3 : 2 * Real.pi * ((3 : ℕ) : ℝ) / ((4 : ℕ) : ℝ) = Real.pi / 2 + Real.pi := by push_cast; ring
  unfold IsTableCode
  rw [h1, h2, h3, Real.sin_pi_div_two, Real.sin_pi, Real.sin_add_pi, Real.sin_pi_div_two]
  refine ⟨?_, ?_, ?_, ?_⟩ <;> (symm; rw [Int.floor_eq_iff]; norm_num)

/-- R364's table of 3 entries, its second. -/
theorem test_table_code_3 : IsTableCode 3 1 61146 := by
  have h : 2 * Real.pi * ((1 : ℕ) : ℝ) / ((3 : ℕ) : ℝ) = Real.pi - Real.pi / 3 := by push_cast; ring
  have hs : (3 : ℝ).sqrt ^ 2 = 3 := Real.sq_sqrt (by norm_num)
  have hp := Real.sqrt_nonneg 3
  unfold IsTableCode
  rw [h, Real.sin_pi_sub, Real.sin_pi_div_three]
  symm
  rw [Int.floor_eq_iff]
  constructor <;> push_cast <;> nlinarith

/-! ## Witnesses: for each obligation with hypotheses, a concrete state and operands that meet them -/

/-- A running UpDown channel going up, one below its period. -/
def upBelow : Channel := { running with mode := .upDown, ctr := 3 }

/-- A running UpDown channel going down, one above zero. -/
def downAbove : Channel := { running with mode := .upDown, ctr := 1, dir := .down }

/-- The transaction of a header and data word, as the one input of a state. -/
def presenting (s : State) (h : Header) (w : Word) : State := withInput s (CycleInput.ofHeader h w)

theorem witness_DecodeOfEncode :
    (Instr.wrLut 1023 0xFFFFFFFF).wellFormed = true ∧ (Instr.wrLut 1023 0xFFFFFFFF).isBus = true ∧
    (Instr.slverrAlign0 none 0x1FFF).wellFormed = true ∧
    (Instr.slverrAlign1 (some 0) 2).wellFormed = true ∧
    (Instr.slverrUnmappedGlobalPage none 0x1C).wellFormed = true ∧
    (Instr.slverrUnmappedChannelOffset none 0x1BC).wellFormed = true ∧
    (Instr.slverrUnmappedChannel3 none 0x1FC).wellFormed = true ∧
    (Instr.slverrUnmappedPages2to15 none 0xFFC).wellFormed = true := by decide

/-- SIZE before ALIGN, ALIGN, and the holes of the map at their edges. -/
theorem witness_SlverrCauseOrder :
    headerSize 0x0003#16 ≠ 2 ∧ (headerSize 0x4003#16 = 2 ∧ (headerAddr 0x4003#16).toNat % 4 ≠ 0) ∧
    (headerSize 0x401C#16 = 2 ∧ (headerAddr 0x401C#16).toNat % 4 = 0 ∧
      ¬ mapped (headerAddr 0x401C#16).toNat) ∧
    ¬ mapped (headerAddr 0x4FFC#16).toNat ∧ ¬ mapped (headerAddr 0x4130#16).toNat :=
  ⟨by decide, by decide, by decide, by decide, by decide⟩

/-- A write of the last read-only register; its read; the last global register; the first entry. -/
theorem witness_SlverrCauseOrder_mapped :
    (headerSize 0xC1AC#16 = 2 ∧ (headerAddr 0xC1AC#16).toNat % 4 = 0) ∧
    mapped (headerAddr 0xC1AC#16).toNat ∧
    (headerW 0xC1AC#16 = true ∧ readOnly (headerAddr 0xC1AC#16).toNat) ∧
    mapped (headerAddr 0x41AC#16).toNat ∧
    ¬ (headerW 0x41AC#16 = true ∧ readOnly (headerAddr 0x41AC#16).toNat) ∧
    mapped (headerAddr 0xC018#16).toNat ∧ ¬ readOnly (headerAddr 0xC018#16).toNat ∧
    mapped (headerAddr 0x5000#16).toNat :=
  ⟨by decide, by decide, by decide, by decide, by decide, by decide, by decide, by decide⟩

theorem witness_StepRunsPresentedTransaction :
    (presenting State.reset 0xC104 250).inputs = [CycleInput.ofHeader 0xC104 250] ∧
    (CycleInput.ofHeader 0xC104 250).rst = false ∧ (CycleInput.ofHeader 0xC104 250).busReq = true ∧
    decode (packHeader (CycleInput.ofHeader 0xC104 250).busWe (CycleInput.ofHeader 0xC104 250).busSize
      (CycleInput.ofHeader 0xC104 250).busAddr) (CycleInput.ofHeader 0xC104 250).busWdata =
      .wrCh0Tbprd 250 := by decide

theorem witness_CycleOrder :
    (withInput State.reset CycleInput.idle).inputs = CycleInput.idle :: [] ∧
    CycleInput.idle.rst = false ∧ CycleInput.idle.busReq = false ∧ State.reset.inputs = [] := by
  decide

/-- The four clauses of a sub-step: stopped, TB_TICK, HALF_TICK, no operation. -/
theorem witness_SubstepSelection :
    (State.reset.chan .c0).run = false ∧
    (((ch0 running).chan .c0).run = true ∧ ((ch0 running).chan .c0).ec = 0) ∧
    (((ch0 { running with ec := 1, half := true }).chan .c0).ec ≠ 0 ∧
      ((ch0 { running with ec := 1, half := true }).chan .c0).ec.toNat =
        ((ch0 { running with ec := 1, half := true }).chan .c0).clkdiv.toNat + 1 ∧
      ((ch0 { running with ec := 1, half := true }).chan .c0).half = true) ∧
    (((ch0 { running with ec := 1 }).chan .c0).ec ≠ 0 ∧
      ¬ (((ch0 { running with ec := 1 }).chan .c0).ec.toNat =
          ((ch0 { running with ec := 1 }).chan .c0).clkdiv.toNat + 1 ∧
        ((ch0 { running with ec := 1 }).chan .c0).half = true)) := by decide

theorem witness_ResetCycle :
    (withInput sequencing { CycleInput.idle with rst := true }).inputs =
      { CycleInput.idle with rst := true } :: [] ∧
    ({ CycleInput.idle with rst := true } : CycleInput).rst = true := by decide

/-- A state with a running channel that satisfies the invariant: UpDown, going down, PRD = 4. -/
def invState : State := ch0 { downAbove with cmpa := 4, cmps := 0 }

theorem invState_channel (k : Ch) :
    invState.chan k = if k = .c0 then { downAbove with cmpa := 4, cmps := 0 } else Channel.reset := by
  cases k <;> rfl

theorem witness_invState : invState.Inv := by
  refine ⟨fun k => ?_, fun k => ?_, fun k => ?_, by decide, by decide, fun p => ?_, by decide, rfl⟩
  · rw [invState_channel]
    split
    · refine ⟨by decide, by decide, by decide, fun _ => by decide, fun h => (by cases h), fun _ _ => ?_,
        fun _ _ h => (by cases h)⟩
      unfold Channel.counterInRange
      decide
    · refine ⟨by decide, by decide, by decide, fun h => (by cases h), fun h => (by cases h),
        fun h => (by cases h), fun h => (by cases h)⟩
  · cases k <;> rfl
  · cases k <;> rfl
  · cases p <;> decide

theorem witness_StepKeepsBlockInvariant :
    invState.Inv ∧ ∃ t, step invState = .next t ∧ (t.chan .c0).ctr = 0 :=
  ⟨witness_invState, _, rfl, by decide⟩

theorem witness_StepKeepsTableCanonical :
    table2.lut.wf ∧ ∃ t, step table2 = .next t ∧ t.lut.readEntry 1 = some 0x10000 :=
  ⟨by decide, _, rfl, by decide⟩

/-- The first and the last header of each list. -/
theorem witness_RdChannelConfiguration :
    (ChReg.tbctl, 0x4100) ∈ [(ChReg.tbctl, 0x4100), (.tbprd, 0x4104), (.cmpctl, 0x410C),
      (.aqctl, 0x411C), (.dbctl, 0x4120), (.dbred, 0x4124), (.dbfed, 0x4128)] ∧
    (ChReg.dbfed, 0x4128) ∈ [(ChReg.tbctl, 0x4100), (.tbprd, 0x4104), (.cmpctl, 0x410C),
      (.aqctl, 0x411C), (.dbctl, 0x4120), (.dbred, 0x4124), (.dbfed, 0x4128)] := by decide

/-- The headers, and a step that presents each read while the counter is about to move. -/
theorem witness_RdChannelStatus :
    (ChReg.tbctr, 0x4108) ∈ [(ChReg.tbctr, 0x4108), (.cmp, 0x4110), (.cmpshd, 0x4114),
      (.duty, 0x4118)] ∧
    (ChReg.duty, 0x4118) ∈ [(ChReg.tbctr, 0x4108), (.cmp, 0x4110), (.cmpshd, 0x4114),
      (.duty, 0x4118)] ∧
    (presenting (ch0 upBelow) 0x4108 0).inputs = CycleInput.ofHeader 0x4108 0 :: [] ∧
    (CycleInput.ofHeader 0x4108 0).rst = false ∧
    (CycleInput.ofHeader 0x4108 0).transaction = some (.chRead .c0 .tbctr) ∧
    (CycleInput.ofHeader 0x4110 0).transaction = some (.chRead .c0 .cmp) ∧
    (CycleInput.ofHeader 0x4114 0).transaction = some (.chRead .c0 .cmpshd) ∧
    (CycleInput.ofHeader 0x4118 0).transaction = some (.chRead .c0 .duty) := by decide

/-- R201: the counter read is that of the start of the cycle, though the cycle moves it to PRD. -/
theorem test_step_tbctr :
    (after (step (presenting (ch0 upBelow) 0x4108 0))).bus = .okay 3 ∧
    ((after (step (presenting (ch0 upBelow) 0x4108 0))).chan .c0).ctr = 4 := by decide

/-- Channel 0 with dead time, its age counter at RED exactly. -/
def delayedState : State := ch0 { running with dben := true, qa := true, red := 1, dtc := 1 }

/-- The delayed outputs of channel 0, at the boundary DTC = RED, and the bypassed ones of channel 1. -/
theorem witness_RdOutstFields :
    true = (if (delayedState.chan .c0).dben = true
      then (delayedState.chan .c0).qa &&
        decide ((delayedState.chan .c0).dtc.toNat ≥ (delayedState.chan .c0).red.toNat)
      else (delayedState.chan .c0).qa) ∧
    false = (if (delayedState.chan .c0).dben = true
      then !(delayedState.chan .c0).qa &&
        decide ((delayedState.chan .c0).dtc.toNat ≥ (delayedState.chan .c0).fed.toNat)
      else (delayedState.chan .c0).qb) ∧
    false = (if (delayedState.chan .c1).dben = true
      then (delayedState.chan .c1).qa &&
        decide ((delayedState.chan .c1).dtc.toNat ≥ (delayedState.chan .c1).red.toNat)
      else (delayedState.chan .c1).qa) := by
  decide

theorem witness_RdLutEntryOrDraw :
    (table2.lut.readByte (0x1000 + 4 * (0 : LutIndex).toNat) = some 0x00 ∧
      table2.lut.readByte (0x1000 + 4 * (0 : LutIndex).toNat + 1) = some 0x80 ∧
      table2.lut.readByte (0x1000 + 4 * (0 : LutIndex).toNat + 2) = some 0x00 ∧
      table2.lut.readByte (0x1000 + 4 * (0 : LutIndex).toNat + 3) = some 0x00) ∧
    3 < 4 ∧ table2.lut.readByte (0x1000 + 4 * (1023 : LutIndex).toNat + 3) = none := by decide

/-- A stopped and a running channel, and the smallest illegal values of each kind, for the writes of
TBCTL, TBPRD, CMPCTL, AQCTL, DBCTL, DBRED and DBFED. -/
theorem witness_configuration_writes :
    (State.reset.chan .c0).run = false ∧ ((ch0 running).chan .c0).run = true ∧
    ChReg.tbctl.illegal 3 ∧ ChReg.tbctl.illegal 4 ∧ ChReg.tbctl.illegal 0x10000 ∧
    ChReg.tbprd.illegal 0x10000 ∧ ChReg.cmpctl.illegal 2 ∧ ChReg.aqctl.illegal 0x10000 ∧
    ChReg.dbctl.illegal 2 ∧ ChReg.dbctl.illegal 0x10 ∧ ChReg.dbred.illegal 0x10000 ∧
    ChReg.dbfed.illegal 0x10000 := by
  unfold ChReg.illegal
  decide

theorem witness_WrTbctlSetsModeAndDivider :
    (Mode.up, 0) ∈ [(Mode.up, 0), (.down, 1), (.upDown, 2)] ∧
    (Mode.upDown, 2) ∈ [(Mode.up, 0), (.down, 1), (.upDown, 2)] := by decide

theorem witness_WrLutnSetsSizeAndIndices :
    2 ≤ 2 ∧ 2 ≤ 1024 ∧ 1024 ≤ 1024 ∧ State.reset.pgen = false ∧ sequencing.pgen = true ∧
    (1 : Word).toNat < 2 ∧ 1024 < (1025 : Word).toNat := by decide

theorem witness_WrPhidxSetsIndex :
    (1023 : LutIndex).toNat < State.reset.lutn.toNat ∧ State.reset.pgen = false ∧
    sequencing.pgen = true ∧ State.reset.lutn.toNat ≤ (1024 : Word).toNat ∧
    1024 ≤ (1024 : Word).toNat ∧ table2.lutn.toNat ≤ (2 : Word).toNat := by decide

/-- The first and the last entry, the bytes beside them, and a state whose table is what was
written. -/
theorem witness_WrLutStoresEntry :
    State.reset.pgen = false ∧ sequencing.pgen = true ∧ 3 < 4 ∧
    (0x0FFF < 0x1000 + 4 * (0 : LutIndex).toNat) ∧
    (0x1000 + 4 * (1023 : LutIndex).toNat + 4 ≤ 0x2000) ∧
    (State.reset.lutWrite 0 7).lut = State.reset.lut.writeEntry 0 7 := by decide

/-- Values at PRD and one above it. -/
theorem witness_WrCmpClampsToPeriod :
    4 = (0x0004FFFF : Word).toNat / 65536 ∧ 5 = (0x00050000 : Word).toNat / 65536 := by decide

theorem witness_SlverrIsPrecise :
    (presenting (ch0 running) 0xC108 5).inputs = CycleInput.ofHeader 0xC108 5 :: [] ∧
    (CycleInput.ofHeader 0xC108 5).rst = false ∧ (CycleInput.ofHeader 0xC108 5).busReq = true ∧
    ∃ t, step (presenting (ch0 running) 0xC108 5) = .next t ∧ t.bus = .slverr .ro := by
  refine ⟨by decide, by decide, by decide, _, rfl, by decide⟩

/-- A channel for each clause of the counter's moves, at its bounds. -/
theorem witness_TbTickCountsByMode :
    (((ch0 (started .up 4 2)).chan .c0).fresh = true ∧ ((ch0 (started .up 4 2)).chan .c0).mode = .up) ∧
    ((ch0 (started .down 4 2)).chan .c0).mode = .down ∧
    ((ch0 (started .upDown 4 2)).chan .c0).mode = .upDown ∧
    (((ch0 { running with ctr := 4 }).chan .c0).fresh = false ∧
      ((ch0 { running with ctr := 4 }).chan .c0).prd.toNat ≤
        ((ch0 { running with ctr := 4 }).chan .c0).ctr.toNat) ∧
    ((ch0 { running with mode := .down, ctr := 0 }).chan .c0).ctr.toNat = 0 ∧
    ((ch0 { running with mode := .upDown, prd := 0 }).chan .c0).prd = 0 ∧
    (((ch0 upBelow).chan .c0).prd ≠ 0 ∧ ((ch0 upBelow).chan .c0).dir = .up ∧
      ((ch0 upBelow).chan .c0).ctr.toNat < ((ch0 upBelow).chan .c0).prd.toNat) ∧
    (((ch0 downAbove).chan .c0).prd ≠ 0 ∧ ((ch0 downAbove).chan .c0).dir = .down ∧
      0 < ((ch0 downAbove).chan .c0).ctr.toNat) := by decide

/-- A start, a tick that reaches 0 and one that does not. -/
theorem witness_TbTickLoadsShadow :
    ((ch0 (started .up 4 2)).chan .c0).fresh = true ∧
    ((ran (.tbTick .c0) (ch0 { running with ctr := 4 })).chan .c0).ctr = 0 ∧
    ((ch0 running).chan .c0).fresh = false ∧
    ((ran (.tbTick .c0) (ch0 running)).chan .c0).ctr ≠ 0 := by decide

/-- The functions of the statement are defined by their equations, here for AQ = 0. -/
theorem witness_TbTickQualifiesByPriority :
    ∃ (zro prd cau cad act q : Nat → Nat),
      (∀ pin, zro pin = if (running.ctr = 0) then running.aq.toNat / 2 ^ (8 * pin) % 4 else 0) ∧
      (∀ pin, prd pin = if running.ctr = running.prd
        then running.aq.toNat / 2 ^ (8 * pin + 2) % 4 else 0) ∧
      (∀ pin, cau pin = if running.ctr = running.cmpa
        then running.aq.toNat / 2 ^ (8 * pin + 4) % 4 else 0) ∧
      (∀ pin, cad pin = if running.ctr = running.cmpa
        then running.aq.toNat / 2 ^ (8 * pin + 6) % 4 else 0) ∧
      (∀ pin, act pin = if running.dir = .up
        then (if prd pin ≠ 0 then prd pin else if cau pin ≠ 0 then cau pin else zro pin)
        else (if zro pin ≠ 0 then zro pin else if cad pin ≠ 0 then cad pin else prd pin)) ∧
      q 0 = running.qa.toNat ∧ q 1 = running.qb.toNat :=
  ⟨_, _, _, _, _, fun n => if n = 0 then running.qa.toNat else running.qb.toNat, fun _ => rfl,
    fun _ => rfl, fun _ => rfl, fun _ => rfl, fun _ => rfl, rfl, rfl⟩

/-- The largest table size; an entry that has been written and one that has not. -/
theorem witness_SampleFeedsEveryPhase :
    0 < State.reset.lutn.toNat ∧ State.reset.lutn.toNat ≤ 1024 ∧ 0 < table2.lutn.toNat ∧
    table2.lut.readEntry 1 = some 0x10000 ∧ State.reset.lut.readEntry 1 = none := by decide

/-- A state whose pins are enabled, with and without dead time. -/
def pinState : State := ch0 { running with outen := true, dben := true, qa := true }

theorem witness_NoShootThrough :
    ∃ t, step pinState = .next t ∧ (t.chan .c0).dben = true ∧ (t.pinsRise.get .c0).a = true :=
  ⟨_, rfl, by decide, by decide⟩

theorem witness_DisabledOutputsAreLow :
    ∃ t, step (ch0 { running with qa := true }) = .next t ∧ (t.chan .c0).outen = false ∧
      (t.chan .c0).qa = true := ⟨_, rfl, by decide, by decide⟩

/-- The codes just below 0 and just above 1.0, and the tie 0.5 × 1. -/
theorem witness_ConversionRoundsHalfUp :
    ((0 : Int) = min (max (0xFFFFFFFF : Word).toInt 0) 0x10000 ∧
      (0x20000 * 0 ≤ 2 * ((0 : Int) * 5) + 0x10000 ∧ 2 * ((0 : Int) * 5) + 0x10000 < 0x20000 * 1)) ∧
    (0x10000 : Int) = min (max (0x10001 : Word).toInt 0) 0x10000 ∧
    ((0x8000 : Int) = min (max (0x8000 : Word).toInt 0) 0x10000 ∧
      0x20000 * (1 : Int) ≤ 2 * (0x8000 * 1) + 0x10000 ∧
      2 * ((0x8000 : Int) * 1) + 0x10000 < 0x20000 * 2) := by decide

theorem witness_ConversionBounds :
    (0x10000 : Word).toNat ≤ 0x10000 ∧ (0x80000000 : Word).toInt ≤ (0x7FFFFFFF : Word).toInt := by
  decide

/-- The premises of the two statements about runs of SAMPLE, at the smallest and the largest size. -/
theorem witness_sample_runs :
    (2 ≤ table2.lutn.toNat ∧ table2.lutn.toNat ≤ 1024 ∧
      (table2.idx.get .c0).toNat < table2.lutn.toNat ∧ (table2.idx.get .c1).toNat < table2.lutn.toNat ∧
      (table2.idx.get .c2).toNat < table2.lutn.toNat) ∧
    2 ≤ State.reset.lutn.toNat ∧ State.reset.lutn.toNat ≤ 1024 ∧
    (State.reset.idx.get .c2).toNat < State.reset.lutn.toNat := by decide

theorem witness_ConfigurationLockedWhileRunning :
    ((presenting (ch0 running) 0xC104 9).chan .c0).run = true ∧
    ∃ t, step (presenting (ch0 running) 0xC104 9) = .next t ∧ (t.chan .c0).run = true ∧
      t.cfgerr.get .c0 = true := ⟨by decide, _, rfl, by decide, by decide⟩

theorem witness_TableLockedWhileSequencing :
    (presenting table2 0xD000 9).pgen = true ∧
    ∃ t, step (presenting table2 0xD000 9) = .next t ∧ t.pgen = true ∧ t.luterr = true :=
  ⟨by decide, _, rfl, by decide, by decide⟩

/-- Every flag set, and a write of ERR that clears all of them. -/
def flagged : State :=
  { State.reset with cfgerr := PerCh.all true, luterr := true, clamp := PerCh.all true,
                     coll := PerCh.all true }

theorem witness_StickyFlagsStay :
    (CycleInput.ofHeader 0xC008 0x77F).rst = false ∧
    ∃ t, step (presenting flagged 0xC008 0x77F) = .next t ∧
      flagged.cfgerr.get .c2 = true ∧ t.cfgerr.get .c2 = false ∧
      flagged.luterr = true ∧ t.luterr = false ∧
      flagged.clamp.get .c2 = true ∧ t.clamp.get .c2 = false ∧
      flagged.coll.get .c2 = true ∧ t.coll.get .c2 = false := by
  refine ⟨by decide, _, rfl, ?_⟩
  decide

theorem witness_GctlChangesOnlyByWrite :
    (presenting (ch0 running) 0x4004 0).input.rst = false ∧
    (presenting (ch0 running) 0x4004 0).input.transaction = some .rdGctl ∧
    ∃ t, step (presenting (ch0 running) 0x4004 0) = .next t := ⟨by decide, by decide, _, rfl⟩

/-- The tick that reaches 0 loads the shadow value 0 over the active value 4. -/
theorem witness_ActiveCompareChangesOnlyAtZero :
    invState.Inv ∧ ∃ t, step invState = .next t ∧ (invState.chan .c0).run = true ∧
      (t.chan .c0).run = true ∧ (invState.chan .c0).immed = false ∧
      (t.chan .c0).cmpa ≠ (invState.chan .c0).cmpa :=
  ⟨witness_invState, _, rfl, by decide, by decide, by decide, by decide⟩

/-- A start in each mode, both halves of an UpDown period, and PRD = 0. -/
theorem witness_CounterPeriods :
    ((ch0 (started .up 4 2)).chan .c0).fresh = true ∧ ((ch0 (started .up 4 2)).chan .c0).prd.toNat = 4 ∧
    ((ch0 (started .down 4 2)).chan .c0).mode = .down ∧
    (((ch0 (started .upDown 4 2)).chan .c0).mode = .upDown ∧ 0 < 4 ∧ 3 % (2 * 4) < 4 ∧
      4 ≤ 4 % (2 * 4)) ∧
    ((ch0 (started .up 0 0)).chan .c0).prd.toNat = 0 := by decide

/-- A started channel under a default profile. -/
def profiled (m : Mode) (c : Tick) (aq : BitVec 16) : State := ch0 { started m 4 c with aq := aq }

/-- The premises of the waveform statement, but for the mode and its profile. -/
abbrev profilePremises (s : State) : Prop :=
  (s.chan .c0).fresh = true ∧ (s.chan .c0).prd ≠ 0 ∧ (s.chan .c0).qa = false ∧
    (s.chan .c0).cmps.toNat ≤ (s.chan .c0).prd.toNat

/-- A start under each default profile, with c at PRD, at 0 and between. -/
theorem witness_DefaultProfileWaveforms :
    (profilePremises (profiled .up 4 0x12) ∧ ((profiled .up 4 0x12).chan .c0).mode = .up ∧
      ((profiled .up 4 0x12).chan .c0).aq = 0x0012#16) ∧
    (profilePremises (profiled .down 0 0x81) ∧ ((profiled .down 0 0x81).chan .c0).mode = .down ∧
      ((profiled .down 0 0x81).chan .c0).aq = 0x0081#16) ∧
    (profilePremises (profiled .upDown 2 0x92) ∧
      ((profiled .upDown 2 0x92).chan .c0).mode = .upDown ∧
      ((profiled .upDown 2 0x92).chan .c0).aq = 0x0092#16) := by decide

/-- The invariant of a state with an input presented is that of the state. -/
theorem inv_withInput {s : State} (x : CycleInput) (h : s.Inv) : (withInput s x).Inv :=
  ⟨h.channel, h.started, h.rising, h.lutn_ge, h.lutn_le, h.idx_lt, h.lut_wf, h.pins_fall⟩

theorem witness_StartTicksInItsCycle :
    (presenting invState 0xC004 3).Inv ∧ (CycleInput.ofHeader 0xC004 3).rst = false ∧
    (CycleInput.ofHeader 0xC004 3).transaction = some (.wrGctl 3) ∧
    (3 : Word).getLsbD Ch.c1.toNat = true ∧ ((presenting invState 0xC004 3).chan .c1).run = false ∧
    ∃ t, step (presenting invState 0xC004 3) = .next t :=
  ⟨inv_withInput _ witness_invState, by decide, by decide, by decide, by decide, _, rfl⟩

theorem witness_CollisionGoesToSequencer :
    table2.pgen = true ∧
    ({ CycleInput.ofHeader 0xC118 5 with sampleTick := true } : CycleInput).rst = false ∧
    ({ CycleInput.ofHeader 0xC118 5 with sampleTick := true } : CycleInput).sampleTick = true ∧
    ({ CycleInput.ofHeader 0xC118 5 with sampleTick := true } : CycleInput).transaction =
      some (.chWrite .c0 .duty 5) ∧
    ({ CycleInput.ofHeader 0xC150 5 with sampleTick := true } : CycleInput).transaction =
      some (.chWrite .c1 .cmp 5) ∧
    table2.lut.readEntry (BitVec.ofNat 10 (((table2.idx.get .c0).toNat + 1) % table2.lutn.toNat)) =
      some 0x10000 ∧
    ∃ t, step (withInput table2 { CycleInput.ofHeader 0xC118 5 with sampleTick := true }) = .next t ∧
      t.coll.get .c0 = true :=
  ⟨by decide, by decide, by decide, by decide, by decide, by decide, _, rfl, by decide⟩

theorem witness_StoppedChannelIsFrozen :
    (ch0 running).input.rst = false ∧ (ch0 running).input.busReq = false ∧
    (ch0 running).input.sampleTick = false ∧ ((ch0 running).chan .c1).run = false ∧
    ∃ t, step (ch0 running) = .next t := ⟨by decide, by decide, by decide, by decide, _, rfl⟩

theorem witness_StartIndicesAreNearest : 2 ≤ 2 ∧ 2 ≤ 1024 ∧ 2 ≤ 1024 ∧ 1024 ≤ 1024 := by decide

theorem witness_HostDutyCodesAreInRange :
    ((0 : Rat) ≤ 0 ∧ (0 : Rat) ≤ 1) ∧ ((0 : Rat) ≤ 1 ∧ (1 : Rat) ≤ 1) ∧
    ((32768 : Rat) ≤ 32768 ∨ (32768 : Rat) < -32768) ∧
    ((32768 : Rat) ≤ -32769 ∨ (-32769 : Rat) < -32768) := by norm_num

/-- The first and the last pin, event and action; a stopped channel without a flag, one with it, and a
running one. -/
theorem witness_ConfigureActionSetsOneField :
    (Pin.a, 0) ∈ [(Pin.a, 0), (.b, 8)] ∧ (Pin.b, 8) ∈ [(Pin.a, 0), (.b, 8)] ∧
    (Event.zro, 0) ∈ [(Event.zro, 0), (.prd, 2), (.cau, 4), (.cad, 6)] ∧
    (Event.cad, 6) ∈ [(Event.zro, 0), (.prd, 2), (.cau, 4), (.cad, 6)] ∧
    (Action.noChange, 0) ∈ [(Action.noChange, 0), (.forceLow, 1), (.forceHigh, 2), (.toggle, 3)] ∧
    (Action.toggle, 3) ∈ [(Action.noChange, 0), (.forceLow, 1), (.forceHigh, 2), (.toggle, 3)] ∧
    ((State.reset.chan .c2).run = false ∧ State.reset.cfgerr.get .c2 = false) ∧
    ((State.reset.setCfgerr .c2).cfgerr.get .c2 = true) ∧ ((ch0 running).chan .c0).run = true := by
  decide

/-- R280 on the block: CAD of pin B of channel 2 becomes ForceHigh, bits 15 and 14 of AQCTL. -/
theorem test_configure_action :
    ∃ t, (configureAction .c2 .b .cad .forceHigh).run 7 State.reset = .done 7 t ∧
      (t.chan .c2).aq = 0x8000 := ⟨_, rfl, by decide⟩

/-- R280 on a running channel: the write is rejected, and the procedure ends in a ConfigurationError. -/
theorem test_configure_action_running :
    ∃ t, (configureAction .c0 .a .zro .toggle).run 0 (ch0 running) = .failed .rejectedWrite 0 t ∧
      (t.chan .c0).aq = 0 := ⟨_, rfl, by decide⟩

end Sys2Proof.Tests
end

section
/-! SUPPORT. The invariant of one channel (R35) under everything that can happen to it within a cycle: a
write, the counter update, a tick, a sub-step. -/

namespace Sys2Proof.Machine

/-! ## The counter's range -/

/-- The range of the counter depends on CTR, DIR, MODE and PRD only. -/
theorem Channel.counterInRange_congr {c d : Channel} (hc : d.ctr = c.ctr) (hd : d.dir = c.dir)
    (hm : d.mode = c.mode) (hp : d.prd = c.prd) (h : c.counterInRange) : d.counterInRange := by
  unfold Channel.counterInRange at h ⊢
  rwa [hc, hd, hm, hp]

/-- The first tick after a start puts the counter in its mode's range (R196). -/
theorem Channel.startValue_inRange (c : Channel) :
    { c with
      ctr := (startValue c.mode c.prd).1
      dir := (startValue c.mode c.prd).2 }.counterInRange := by
  cases c.mode with
  | up => simp [Channel.counterInRange, startValue]
  | down => simp [Channel.counterInRange, startValue]
  | upDown =>
    have hpos : c.prd ≠ 0 → 0 < c.prd.toNat := fun h => by bv_omega
    simpa [Channel.counterInRange, startValue] using hpos

/-- A tick keeps the counter in its mode's range (R197). -/
theorem Channel.nextValue_inRange {c : Channel} (h : c.counterInRange) :
    { c with
      ctr := (nextValue c.mode c.prd c.ctr c.dir).1
      dir := (nextValue c.mode c.prd c.ctr c.dir).2 }.counterInRange := by
  obtain ⟨hle, -, -, hbelow, habove⟩ := h
  cases hm : c.mode with
  | up =>
    refine ⟨?_, fun _ => rfl, nofun, nofun, nofun⟩
    simp only [nextValue]
    split <;> bv_omega
  | down =>
    refine ⟨?_, nofun, fun _ => rfl, nofun, nofun⟩
    simp only [nextValue]
    split <;> bv_omega
  | upDown =>
    by_cases h0 : c.prd = 0
    · simp [Channel.counterInRange, nextValue, h0]
    · cases hd : c.dir with
      | up =>
        have hlt := hbelow hm h0 hd
        have hnext : nextValue .upDown c.prd c.ctr .up =
            (c.ctr + 1, if c.ctr + 1 = c.prd then .down else .up) := if_neg h0
        rw [hnext]
        refine ⟨by bv_omega, nofun, nofun, fun _ _ hdir => ?_, fun _ _ _ => by bv_omega⟩
        split at hdir
        · cases hdir
        · bv_omega
      | down =>
        have hpos := habove hm h0 hd
        have hnext : nextValue .upDown c.prd c.ctr .down =
            (c.ctr - 1, if c.ctr - 1 = 0 then .up else .down) := if_neg h0
        rw [hnext]
        refine ⟨by bv_omega, nofun, nofun, fun _ _ _ => by bv_omega, fun _ _ hdir => ?_⟩
        split at hdir
        · cases hdir
        · bv_omega

/-- The counter update of a tick leaves the counter in range, from a start or from a counter in range
(R194). -/
theorem Channel.count_inRange {c : Channel} (h : c.fresh = false → c.counterInRange) :
    c.count.counterInRange := by
  unfold Channel.count
  split
  · exact Channel.counterInRange_congr rfl rfl rfl rfl c.startValue_inRange
  · rename_i hf
    exact Channel.nextValue_inRange (h (Bool.eq_false_iff.mpr hf))

/-! ## Writes -/

theorem Channel.reset_inv : Channel.reset.Inv :=
  ⟨by decide, by decide, by decide, nofun, nofun, nofun, nofun⟩

/-- A stopped channel has no start pending. -/
theorem Channel.Inv.fresh_of_stopped {c : Channel} (h : c.Inv) (hr : c.run = false) :
    c.fresh = false := by
  cases hf : c.fresh with
  | false => rfl
  | true => exact (h.fresh_ec hf).1.symm.trans hr

/-- Of a stopped channel the invariant asks no more than the bounds on the compare values and on the age
counter (log entry 12). -/
theorem Channel.inv_of_stopped {c : Channel} (hr : c.run = false) (hf : c.fresh = false)
    (ha : c.cmpa.toNat ≤ c.prd.toNat) (hs : c.cmps.toNat ≤ c.prd.toNat)
    (hd : c.dtc.toNat ≤ Config.dtcMax) : c.Inv where
  cmpa_le := ha
  cmps_le := hs
  dtc_le := hd
  ec_lt h := by simp [hr] at h
  fresh_ec h := by simp [hf] at h
  counter h := by simp [hr] at h
  immediate h := by simp [hr] at h

/-- A stopped channel's configuration, its period excepted, can be set to anything (R156). -/
theorem Channel.Inv.configure {c d : Channel} (h : c.Inv) (hr : c.run = false)
    (hd : d = { c with
      mode := d.mode, clkdiv := d.clkdiv, immed := d.immed, aq := d.aq, dben := d.dben, pol := d.pol
      half := d.half, red := d.red, fed := d.fed }) : d.Inv := by
  rw [hd]
  exact Channel.inv_of_stopped hr (h.fresh_of_stopped hr) h.cmpa_le h.cmps_le h.dtc_le

/-- A new period of a stopped channel, with the compare values brought within it (R191, R192). -/
theorem Channel.Inv.setPeriod {c : Channel} (h : c.Inv) (hr : c.run = false) (p : Tick) :
    (Channel.clampCompare { c with prd := p }).Inv := by
  refine Channel.inv_of_stopped hr (h.fresh_of_stopped hr) ?_ ?_ h.dtc_le
  · exact (tickMin_toNat _ _).trans_le (Nat.min_le_right _ _)
  · exact (tickMin_toNat _ _).trans_le (Nat.min_le_right _ _)

/-- A compare write of a value within the period, on a running channel too (R244). -/
theorem Channel.Inv.cmpWrite {c : Channel} (h : c.Inv) {v : Tick} (hv : v.toNat ≤ c.prd.toNat) :
    (c.cmpWrite v).Inv where
  cmpa_le := by
    rw [Channel.cmpWrite_cmpa]
    split
    · exact hv
    · exact h.cmpa_le
  cmps_le := hv
  dtc_le := h.dtc_le
  ec_lt := h.ec_lt
  fresh_ec := h.fresh_ec
  counter := h.counter
  immediate _ _ hi := if_pos hi

/-- The converter's value is within the period (R237). -/
theorem convertValue_le (w : Word) (m : Mode) (p : Tick) :
    (convertValue w m p).toNat ≤ p.toNat :=
  (convert_toNat w m p).trans_le (Nat.min_le_right _ _)

/-- A duty write (R242). -/
theorem Channel.Inv.dutyWrite {c : Channel} (h : c.Inv) (w : Word) : (c.dutyWrite w).Inv := by
  have hw := h.cmpWrite (convertValue_le w c.mode c.prd)
  exact ⟨hw.cmpa_le, hw.cmps_le, hw.dtc_le, hw.ec_lt, hw.fresh_ec, hw.counter, hw.immediate⟩

/-- A write of RUN = 1 to a running channel is no start and changes nothing (R162). -/
theorem Channel.setRun_running {c : Channel} (hr : c.run = true) : c.setRun true = c := by
  cases c
  cases hr
  rfl

/-- A start: RUN goes from 0 to 1 (R162). -/
theorem Channel.setRun_start {c : Channel} (hr : c.run = false) :
    c.setRun true = { c with run := true, fresh := true, ec := 0 } := by
  simp [Channel.setRun, hr]

/-- A write of RUN: a start begins at EC = 0, and a stop finds no start pending (R162). -/
theorem Channel.Inv.setRun {c : Channel} (h : c.Inv) (hf : c.fresh = false) (b : Bool) :
    (c.setRun b).Inv := by
  cases b with
  | false => exact Channel.inv_of_stopped rfl hf h.cmpa_le h.cmps_le h.dtc_le
  | true =>
    cases hr : c.run with
    | true => rwa [Channel.setRun_running hr]
    | false =>
      rw [Channel.setRun_start hr]
      exact ⟨h.cmpa_le, h.cmps_le, h.dtc_le, fun _ => by simp [Channel.div],
        fun _ => ⟨rfl, rfl⟩, nofun, nofun⟩

/-- A write of RUN leaves the prescaler at an even count. -/
theorem Channel.setRun_ec_even {c : Channel} (h : c.ec.toNat % 2 = 0) (b : Bool) :
    (c.setRun b).ec.toNat % 2 = 0 := by
  cases b with
  | false => exact h
  | true =>
    cases hr : c.run with
    | true => rwa [Channel.setRun_running hr]
    | false => simp [Channel.setRun_start hr]

/-- A write of OUTEN touches nothing the invariant speaks of. -/
theorem Channel.Inv.setOuten {c : Channel} (h : c.Inv) (en cfgerr : Bool) :
    (c.setOuten en cfgerr).Inv :=
  ⟨h.cmpa_le, h.cmps_le, h.dtc_le, h.ec_lt, h.fresh_ec, h.counter, h.immediate⟩

/-! ## Ticks and sub-steps -/

/-- A tick of a running channel (R194). -/
theorem Channel.Inv.tbTick {c : Channel} (h : c.Inv) (hr : c.run = true) : c.tbTick.Inv where
  cmpa_le := by
    rw [Channel.tbTick_cmpa, Channel.tbTick_prd]
    split
    · exact h.cmps_le
    · exact h.cmpa_le
  cmps_le := by simpa using h.cmps_le
  dtc_le := by
    rw [Channel.tbTick_dtc]
    unfold Config.dtcMax
    split <;> omega
  ec_lt hr' := by simpa [Channel.div] using h.ec_lt hr
  fresh_ec hf := by simp at hf
  counter _ _ :=
    Channel.counterInRange_congr c.tbTick_ctr c.tbTick_dir (by simp) (by simp)
      (Channel.count_inRange (h.counter hr))
  immediate _ _ hi := by
    rw [Channel.tbTick_cmpa, Channel.tbTick_cmps]
    split
    · rfl
    · rename_i hn
      exact h.immediate hr (Bool.eq_false_iff.mpr fun hf => hn (.inl hf)) (by simpa using hi)

/-- A half tick keeps the age counter at most 65536 and touches nothing else (R312, R313). -/
theorem Channel.Inv.halfTick {c : Channel} (h : c.Inv) : c.halfTick.Inv := by
  have hd : c.halfTick.dtc.toNat ≤ Config.dtcMax :=
    (Channel.dtStep_dtc c false).trans_le (Nat.min_le_right _ _)
  exact ⟨h.cmpa_le, h.cmps_le, hd, h.ec_lt, h.fresh_ec, h.counter, h.immediate⟩

/-- The prescaler's count stays below 2·DIV (R193). -/
theorem Channel.Inv.advanceEc {c : Channel} (h : c.Inv) (hf : c.fresh = false) : c.advanceEc.Inv where
  cmpa_le := h.cmpa_le
  cmps_le := h.cmps_le
  dtc_le := h.dtc_le
  ec_lt _ := by
    rw [Channel.advanceEc_ec]
    exact Nat.mod_lt _ (by unfold Channel.div; omega)
  fresh_ec hf' := by simp [hf] at hf'
  counter := h.counter
  immediate := h.immediate

/-- A start is pending only at EC = 0, where the sub-step makes the tick that ends it (R162, R196). -/
theorem Channel.Inv.substep_fresh {c : Channel} (h : c.Inv) : c.substep.fresh = false := by
  unfold Channel.substep
  split
  · split
    · simp
    · rename_i hec
      have hf : c.fresh = false := Bool.eq_false_iff.mpr fun hf => hec (h.fresh_ec hf).2
      split <;> simpa using hf
  · rename_i hr
    exact h.fresh_of_stopped (Bool.eq_false_iff.mpr hr)

/-- A sub-step keeps the channel's invariant (R193). -/
theorem Channel.Inv.substep {c : Channel} (h : c.Inv) : c.substep.Inv := by
  unfold Channel.substep
  split
  · rename_i hr
    split
    · exact (h.tbTick hr).advanceEc (by simp)
    · rename_i hec
      have hf : c.fresh = false := Bool.eq_false_iff.mpr fun hf => hec (h.fresh_ec hf).2
      split
      · exact h.halfTick.advanceEc hf
      · exact h.advanceEc hf
  · exact h

/-- A cycle's two sub-steps bring the prescaler from one even count to the next (R193). -/
theorem Channel.substep_substep_ec_even {c : Channel} (h : c.ec.toNat % 2 = 0) :
    c.substep.substep.ec.toNat % 2 = 0 := by
  cases hr : c.run with
  | false => rwa [Channel.substep_stopped hr, Channel.substep_stopped hr]
  | true =>
    obtain ⟨hrun, -, -, hdiv, -⟩ := c.substep_frame
    have hd : c.substep.div = c.div := by simp [Channel.div, hdiv]
    have hm := Nat.mod_mul_right_mod (c.ec.toNat + 1) 2 c.div
    rw [Channel.substep_ec (hrun.trans hr), Channel.substep_ec hr, hd, Nat.mod_mul_right_mod]
    omega

end Sys2Proof.Machine
end

section
/-! SUPPORT. The block's invariant (R35) under each part of a cycle: the bus transaction, the sample step and
the sub-steps. A channel that the bus has just started has a start pending until its first sub-step, so
between the bus and the sub-steps the channels are `Ready` and not yet as `State.Inv` has them. -/

namespace Sys2Proof.Machine

/-- What a channel satisfies before a rising sub-step: its invariant, and an even prescaler count. -/
def Channel.Ready (c : Channel) : Prop := c.Inv ∧ c.ec.toNat % 2 = 0

/-- The invariant's part on the lookup table: its size, the phase indices, the RAM (R35, R359). -/
structure State.TableInv (s : State) : Prop where
  lutn_ge : 2 ≤ s.lutn.toNat
  lutn_le : s.lutn.toNat ≤ 1024
  idx_lt : ∀ p, (s.idx.get p).toNat < s.lutn.toNat
  lut_wf : s.lut.wf

/-- The block's invariant by its parts. -/
theorem State.inv_iff {s : State} :
    s.Inv ↔ (∀ k, (s.chan k).Ready ∧ (s.chan k).fresh = false) ∧ s.TableInv ∧ s.pinsFall = s.pins :=
  ⟨fun h => ⟨fun k => ⟨⟨h.channel k, h.rising k⟩, h.started k⟩,
      ⟨h.lutn_ge, h.lutn_le, h.idx_lt, h.lut_wf⟩, h.pins_fall⟩,
    fun ⟨hc, ht, hp⟩ => ⟨fun k => (hc k).1.1, fun k => (hc k).2, fun k => (hc k).1.2, ht.lutn_ge,
      ht.lutn_le, ht.idx_lt, ht.lut_wf, hp⟩⟩

/-! ## Reset -/

/-- The state of R430 satisfies the invariant. -/
theorem State.reset_inv : State.reset.Inv :=
  State.inv_iff.mpr ⟨fun k => by
      rw [State.reset_chan]
      exact ⟨⟨Channel.reset_inv, rfl⟩, rfl⟩,
    ⟨by decide, by decide, fun p => by cases p <;> decide, State.reset_lut_wf⟩, rfl⟩

/-- A reset cycle ends in a state with the invariant, whatever the state it began in. -/
theorem State.doReset_inv (s : State) : s.doReset.Inv :=
  have h := State.reset_inv
  ⟨h.channel, h.started, h.rising, h.lutn_ge, h.lutn_le, h.idx_lt, h.lut_wf, h.pins_fall⟩

/-! ## The channels -/

/-- Two changes of one channel in a row. -/
theorem State.modChan_modChan (s : State) (k : Ch) (f g : Channel → Channel) :
    (s.modChan k f).modChan k g = s.modChan k fun c => g (f c) := by
  simp [State.modChan, State.setChan, State.chan]

/-- Compare values within the period are left as they are (R192). -/
theorem Channel.clampCompare_of_within {c : Channel} (h : c.compareAbovePeriod = false) :
    c.clampCompare = c := by
  simp only [Channel.compareAbovePeriod, Bool.or_eq_false_iff, decide_eq_false_iff_not,
    Nat.not_lt] at h
  simp [Channel.clampCompare, tickMin, h]

/-- A TBPRD write has the form of the compare writes: one channel changed, and its CLAMP flag set when a
compare value was above the new period (R191, R192). -/
theorem State.setTbprd_eq (s : State) (k : Ch) (p : Tick) :
    State.setTbprd k p s =
      (s.modChan k fun c => Channel.clampCompare { c with prd := p }).clampIf k
        (Channel.compareAbovePeriod { s.chan k with prd := p }) := by
  unfold State.setTbprd State.clampCompareToPeriod State.clampIf
  rw [State.modChan_chan_same, State.modChan_modChan]
  split
  · rfl
  · rename_i h
    have hw := Channel.clampCompare_of_within (Bool.eq_false_iff.mpr h)
    simp [State.modChan, hw]

/-- What holds of every channel still does after a change of one channel that keeps it. -/
theorem State.forall_modChan {P : Channel → Prop} {s : State} {j : Ch} {f : Channel → Channel}
    (h : ∀ k, P (s.chan k)) (hf : P (f (s.chan j))) (k : Ch) : P ((s.modChan j f).chan k) := by
  rw [State.modChan_chan]
  split
  · exact hf
  · exact h k

theorem Channel.Ready.configure {c d : Channel} (h : c.Ready) (hr : c.run = false)
    (hd : d = { c with
      mode := d.mode, clkdiv := d.clkdiv, immed := d.immed, aq := d.aq, dben := d.dben, pol := d.pol
      half := d.half, red := d.red, fed := d.fed }) : d.Ready :=
  ⟨h.1.configure hr hd, by rw [hd]; exact h.2⟩

theorem Channel.Ready.dutyWrite {c : Channel} (h : c.Ready) (w : Word) : (c.dutyWrite w).Ready :=
  ⟨h.1.dutyWrite w, h.2⟩

/-- Two sub-steps leave the channel ready for the next cycle, with no start pending (R193, R196). -/
theorem Channel.Ready.substep_substep {c : Channel} (h : c.Ready) :
    c.substep.substep.Ready ∧ c.substep.substep.fresh = false :=
  ⟨⟨h.1.substep.substep, Channel.substep_substep_ec_even h.2⟩, h.1.substep.substep_fresh⟩

/-- Every bus transaction leaves every channel ready for the rising sub-step. -/
theorem BusEffect.ready {s t : State} {i : Instr} (h : BusEffect s i t)
    (hs : ∀ k, (s.chan k).Ready ∧ (s.chan k).fresh = false) (k : Ch) : (t.chan k).Ready := by
  have hready : ∀ k, (s.chan k).Ready := fun k => (hs k).1
  cases h with
  | respond | draw | rejectChannel | rejectTable | err | lutn | phidx | lut => exact hready k
  | gctl w =>
    rw [State.respond_chan, State.gctlWrite_chan]
    obtain ⟨⟨hinv, hec⟩, hf⟩ := hs k
    exact ⟨(hinv.setRun hf _).setOuten _ _, Channel.setRun_ec_even hec _⟩
  | tbctl j x hr | cmpctl j x hr | aqctl j x hr | dbctl j x hr | dbred j x hr | dbfed j x hr =>
    rw [State.respond_chan]
    refine State.forall_modChan (P := Channel.Ready) hready (j := j) ?_ k
    exact (hready j).configure hr rfl
  | tbprd j p hr =>
    rw [State.respond_chan, State.setTbprd_eq, State.clampIf_chan]
    exact State.forall_modChan hready ⟨(hready j).1.setPeriod hr p, (hready j).2⟩ k
  | cmp j w =>
    have hv : (tickMin (cmpOperand w) (s.chan j).prd).toNat ≤ (s.chan j).prd.toNat :=
      (tickMin_toNat _ _).trans_le (Nat.min_le_right _ _)
    rw [State.respond_chan, State.markWrote_chan, State.cmpBusWrite, State.clampIf_chan]
    exact State.forall_modChan hready ⟨(hready j).1.cmpWrite hv, (hready j).2⟩ k
  | duty j w =>
    rw [State.respond_chan, State.markWrote_chan, State.dutyWrite, State.clampIf_chan]
    exact State.forall_modChan hready ((hready j).dutyWrite w) k

/-- The sample step, if there is one, keeps every channel ready (R358). -/
theorem State.sampled_ready {s : State} (h : ∀ k, (s.chan k).Ready) (tick : Bool) (k : Ch) :
    ((s.sampled tick).chan k).Ready := by
  unfold State.sampled
  split
  · obtain ⟨w, hw⟩ := s.sampleStep_chan k
    rw [hw]
    exact (h k).dutyWrite w
  · exact h k

/-! ## The lookup table -/

/-- The start indices are below the table size (R352). -/
theorem startIdx_lt (p : Ch) {n : Nat} (h : 2 ≤ n) : startIdx p n < n := by
  cases p <;> simp only [startIdx] <;> omega

/-- An advanced index is below the table size (R358). -/
theorem nextIdx_lt (i : LutIndex) {n : BitVec 11} (h : 2 ≤ n.toNat) : (nextIdx i n).toNat < n.toNat := by
  have hm := Nat.mod_lt (i.toNat + 1) (show n.toNat > 0 by omega)
  have hle := Nat.mod_le ((i.toNat + 1) % n.toNat) (2 ^ 10)
  rw [nextIdx, BitVec.toNat_ofNat]
  omega

/-- A new index of one phase, below the table size. -/
theorem State.TableInv.setIdx {s : State} (h : s.TableInv) (p : Ch) {i : LutIndex}
    (hi : i.toNat < s.lutn.toNat) : (State.setIdx p i s).TableInv where
  lutn_ge := h.lutn_ge
  lutn_le := h.lutn_le
  idx_lt q := by
    rw [State.setIdx_idx, PerCh.get_set, State.setIdx_lutn]
    split
    · exact hi
    · exact h.idx_lt q
  lut_wf := h.lut_wf

/-- The table's part of the invariant reads no other field. -/
theorem State.TableInv.congr {s t : State} (h : s.TableInv) (hn : t.lutn = s.lutn)
    (hi : t.idx = s.idx) (hm : t.lut = s.lut) : t.TableInv :=
  ⟨hn ▸ h.lutn_ge, hn ▸ h.lutn_le, hn ▸ hi ▸ h.idx_lt, hm ▸ h.lut_wf⟩

/-- A change of one channel with its CLAMP flag keeps the table's part of the invariant. -/
theorem State.TableInv.changeChannel {s : State} (h : s.TableInv) (k : Ch) (f : Channel → Channel)
    (b : Bool) : ((s.modChan k f).clampIf k b).TableInv :=
  h.congr (by simp) (by simp) (by simp)

theorem State.TableInv.setTbprd {s : State} (h : s.TableInv) (k : Ch) (p : Tick) :
    (State.setTbprd k p s).TableInv := by
  rw [State.setTbprd_eq]
  exact h.changeChannel k _ _

theorem State.TableInv.cmpBusWrite {s : State} (h : s.TableInv) (k : Ch) (v : Tick) :
    (State.cmpBusWrite k v s).TableInv := h.changeChannel k _ _

theorem State.TableInv.dutyWrite {s : State} (h : s.TableInv) (k : Ch) (w : Word) :
    (s.dutyWrite k w).TableInv := h.changeChannel k _ _

theorem State.TableInv.respond {s : State} (h : s.TableInv) (r : BusResult) :
    (s.respond r).TableInv := h.congr rfl rfl rfl

theorem State.TableInv.markWrote {s : State} (h : s.TableInv) (k : Ch) :
    (s.markWrote k).TableInv := h.congr rfl rfl rfl

/-- A new table size within 2 to 1024, with the indices at their start (R353). -/
theorem State.TableInv.setLutn {s : State} (h : s.TableInv) {n : BitVec 11} (hl : 2 ≤ n.toNat)
    (hu : n.toNat ≤ 1024) : (State.setLutn n s).TableInv where
  lutn_ge := hl
  lutn_le := hu
  idx_lt p := by
    have hlt := startIdx_lt p hl
    have hle := Nat.mod_le (startIdx p n.toNat) (2 ^ 10)
    rw [State.setLutn_idx, PerCh.get_ofFn, BitVec.toNat_ofNat, State.setLutn_lutn]
    omega
  lut_wf := h.lut_wf

/-- Every bus transaction keeps the table's part of the invariant (R93, R353, R356). -/
theorem BusEffect.tableInv {s t : State} {i : Instr} (h : BusEffect s i t) (hs : s.TableInv) :
    t.TableInv := by
  cases h with
  | lutn n _ hl hu => exact (hs.setLutn hl hu).respond _
  | phidx p x _ hx => exact (hs.setIdx p hx).respond _
  | lut e v =>
    exact ⟨hs.lutn_ge, hs.lutn_le, hs.idx_lt, State.lutWrite_wf hs.lut_wf e v⟩
  | tbprd j p => exact (hs.setTbprd j p).respond _
  | cmp j w => exact ((hs.cmpBusWrite j (cmpOperand w)).markWrote j).respond _
  | duty j w => exact ((hs.dutyWrite j w).markWrote j).respond _
  | respond | draw | rejectChannel | rejectTable | gctl | err | tbctl | cmpctl | aqctl | dbctl |
      dbred | dbfed =>
    exact hs.congr rfl rfl rfl

/-- One phase of the sample step keeps the table's part of the invariant (R358). -/
theorem State.samplePhase_tableInv {s : State} (h : s.TableInv) (p : Ch) :
    (s.samplePhase p).TableInv :=
  (h.setIdx p (nextIdx_lt (s.idx.get p) h.lutn_ge)).congr (by simp [State.samplePhase, State.dutyWrite])
    (s.samplePhase_idx p) (by simp [State.samplePhase, State.dutyWrite])

/-- The sample step, if there is one, keeps the table's part of the invariant. -/
theorem State.sampled_tableInv {s : State} (h : s.TableInv) (tick : Bool) :
    (s.sampled tick).TableInv := by
  unfold State.sampled
  split
  · exact samplePhase_tableInv (samplePhase_tableInv (samplePhase_tableInv h .c0) .c1) .c2
  · exact h

/-! ## The cycle -/

/-- The bus phase leaves the state as it was, or does one of the effects of a transaction. -/
theorem busPhase_effect {s u : State} {o : Option Instr} (h : busPhase s o u) :
    u = s ∨ ∃ i, o = some i ∧ BusEffect s i u := by
  obtain ⟨-, hu⟩ | ⟨i, ho, -, heff⟩ := h
  · exact .inl hu
  · exact .inr ⟨i, ho, heff⟩

/-- The sub-steps leave the lookup table and its indices as the sample step left them (R150). -/
theorem State.afterBus_table (s : State) (tick : Bool) :
    (s.afterBus tick).lutn = (s.sampled tick).lutn ∧ (s.afterBus tick).idx = (s.sampled tick).idx ∧
      (s.afterBus tick).lut = (s.sampled tick).lut := by
  unfold State.afterBus State.sampled
  exact ⟨rfl, rfl, rfl⟩

/-- The rest of a cycle brings the block from ready channels to its invariant (R150). -/
theorem State.afterBus_inv {s : State} (hc : ∀ k, (s.chan k).Ready) (ht : s.TableInv) (tick : Bool) :
    (s.afterBus tick).Inv := by
  obtain ⟨hn, hi, hm⟩ := s.afterBus_table tick
  refine State.inv_iff.mpr ⟨fun k => ?_, (State.sampled_tableInv ht tick).congr hn hi hm, ?_⟩
  · rw [State.afterBus_chan]
    exact (State.sampled_ready hc tick k).substep_substep
  · refine PerCh.ext_get fun k => ?_
    rw [(s.afterBus_pins tick k).2, State.pins, PerCh.get_ofFn]

end Sys2Proof.Machine
end

section

open Sys2Proof Sys2Proof.Machine

/-- Settles O11: the reset and the two parts of a cycle each keep the invariant. -/
theorem stepKeepsBlockInvariant : Obligations.StepKeepsBlockInvariant := by
  intro s t hinv hstep
  obtain ⟨hc, ht, -⟩ := State.inv_iff.mp hinv
  have htable : s.beginCycle.TableInv := ht.congr rfl rfl rfl
  have hchan : ∀ k, (s.beginCycle.chan k).Ready ∧ (s.beginCycle.chan k).fresh = false := hc
  obtain ⟨-, rfl⟩ | ⟨-, u, hbus, rfl⟩ := step_cases hstep
  · exact State.doReset_inv _
  · obtain rfl | ⟨i, -, heff⟩ := busPhase_effect hbus
    · exact State.afterBus_inv (fun k => (hchan k).1) htable _
    · exact State.afterBus_inv (heff.ready hchan) (heff.tableInv htable) _

/-- Settles O10: the values of R430 meet the invariant clause by clause. -/
theorem invariantAtReset : Obligations.InvariantAtReset := State.reset_inv

end

section
/-! SUPPORT. The sticky flags of ERR (R36, R163, R393) as one family, so that what keeps them is said once for
all of them. -/

namespace Sys2Proof.Machine

/-- The flags of ERR (R42). -/
inductive StickyFlag where
  | cfgerr (k : Ch)
  | luterr
  | clamp (k : Ch)
  | coll (k : Ch)

/-- The place of a flag in ERR (R42, R163). -/
def StickyFlag.bit : StickyFlag → Nat
  | .cfgerr k => k.toNat
  | .luterr => 3
  | .clamp k => 4 + k.toNat
  | .coll k => 8 + k.toNat

/-- The value of a flag. -/
def State.flag (s : State) : StickyFlag → Bool
  | .cfgerr k => s.cfgerr.get k
  | .luterr => s.luterr
  | .clamp k => s.clamp.get k
  | .coll k => s.coll.get k

/-- A write of ERR clears the flags whose bits it has at 1, and no other (R166). -/
theorem State.clearFlags_flag (s : State) (w : Word) (f : StickyFlag) :
    (s.clearFlags w).flag f = (s.flag f && !w.getLsbD f.bit) := by
  cases f <;> simp [State.flag, StickyFlag.bit, clearBits]

/-- Every flag that is set in `s` is set in `t`. -/
def State.KeepsFlags (s t : State) : Prop := ∀ f, s.flag f = true → t.flag f = true

theorem State.KeepsFlags.trans {s t u : State} (h : s.KeepsFlags t) (h' : t.KeepsFlags u) :
    s.KeepsFlags u := fun f hf => h' f (h f hf)

theorem State.KeepsFlags.respond {s t : State} (h : s.KeepsFlags t) (r : BusResult) :
    s.KeepsFlags (t.respond r) := fun f hf => h f hf

theorem State.KeepsFlags.markWrote {s t : State} (h : s.KeepsFlags t) (k : Ch) :
    s.KeepsFlags (t.markWrote k) := fun f hf => h f hf

/-- A per-channel flag that is set stays set when one of them is set, or is set on a condition. -/
theorem PerCh.get_set_or {t : PerCh Bool} {j k : Ch} {b : Bool} (h : t.get k = true) :
    (t.set j (t.get j || b)).get k = true := by
  rw [PerCh.get_set]
  split
  · rename_i hk
    rw [← hk, h, Bool.true_or]
  · exact h

/-! ## Setting a flag -/

theorem State.setCfgerr_keepsFlags (s : State) (k : Ch) : s.KeepsFlags (s.setCfgerr k) := by
  intro f hf
  cases f with
  | cfgerr j => simpa [State.flag] using PerCh.get_set_or (j := k) (b := true) hf
  | luterr | clamp | coll => exact hf

theorem State.setLuterr_keepsFlags (s : State) : s.KeepsFlags s.setLuterr := by
  intro f hf
  cases f with
  | luterr => rfl
  | cfgerr | clamp | coll => exact hf

theorem State.clampIf_keepsFlags (s : State) (k : Ch) (b : Bool) : s.KeepsFlags (s.clampIf k b) := by
  intro f hf
  cases f with
  | clamp j =>
    unfold State.flag
    rw [State.clampIf_clamp]
    exact PerCh.get_set_or hf
  | cfgerr | luterr | coll => simpa [State.flag] using hf

theorem State.collide_keepsFlags (s : State) (p : Ch) : s.KeepsFlags (s.collide p) := by
  intro f hf
  cases f with
  | coll j =>
    unfold State.flag
    rw [State.collide_coll]
    exact PerCh.get_set_or hf
  | cfgerr | luterr | clamp => simpa [State.flag] using hf

/-- A write to one channel with its CLAMP flag keeps the flags that are set. -/
theorem State.changeChannel_keepsFlags (s : State) (k : Ch) (g : Channel → Channel) (b : Bool) :
    s.KeepsFlags ((s.modChan k g).clampIf k b) :=
  fun f hf => (s.modChan k g).clampIf_keepsFlags k b f hf

theorem State.setTbprd_keepsFlags (s : State) (k : Ch) (p : Tick) :
    s.KeepsFlags (State.setTbprd k p s) := by
  rw [State.setTbprd_eq]
  exact s.changeChannel_keepsFlags k _ _

theorem State.cmpBusWrite_keepsFlags (s : State) (k : Ch) (v : Tick) :
    s.KeepsFlags (State.cmpBusWrite k v s) := s.changeChannel_keepsFlags k _ _

theorem State.dutyWrite_keepsFlags (s : State) (k : Ch) (w : Word) :
    s.KeepsFlags (s.dutyWrite k w) := s.changeChannel_keepsFlags k _ _

/-! ## The parts of a cycle -/

/-- A bus transaction is a write of ERR, or keeps every flag that is set (R36). -/
theorem BusEffect.keepsFlags {s t : State} {i : Instr} (h : BusEffect s i t) :
    (∃ w, i = .wrErr w ∧ t = (s.clearFlags w).respond (.okay 0)) ∨ s.KeepsFlags t := by
  cases h with
  | err w => exact .inl ⟨w, rfl, rfl⟩
  | rejectChannel k => exact .inr ((s.setCfgerr_keepsFlags k).respond _)
  | rejectTable => exact .inr (s.setLuterr_keepsFlags.respond _)
  | tbprd k p => exact .inr ((s.setTbprd_keepsFlags k p).respond _)
  | cmp k w => exact .inr (((s.cmpBusWrite_keepsFlags k (cmpOperand w)).markWrote k).respond _)
  | duty k w => exact .inr (((s.dutyWrite_keepsFlags k w).markWrote k).respond _)
  | respond | draw | gctl | tbctl | cmpctl | aqctl | dbctl | dbred | dbfed | lutn | phidx | lut =>
    exact .inr fun f hf => hf

/-- A table read changes no flag (R89). -/
theorem lutRead_keepsFlags (i : LutIndex) (s : State) : s.KeepsFlags (lutRead i s).2 := by
  intro f hf
  obtain ⟨v, -, h⟩ | ⟨-, h⟩ := lutRead_cases i s
  · rwa [h]
  · rwa [h]

/-- One phase of the sample step may set COLL and CLAMP and clears nothing (R358). -/
theorem State.samplePhase_keepsFlags (s : State) (p : Ch) : s.KeepsFlags (s.samplePhase p) := by
  have hread : s.KeepsFlags (lutRead ((s.advance p).idx.get p) (s.advance p)).2 :=
    fun f hf => lutRead_keepsFlags _ (s.advance p) f hf
  exact (hread.trans (State.collide_keepsFlags _ p)).trans (State.dutyWrite_keepsFlags _ p _)

/-- The rest of a cycle after its bus transaction keeps every flag that is set (R36). -/
theorem State.afterBus_keepsFlags (s : State) (tick : Bool) : s.KeepsFlags (s.afterBus tick) := by
  have hsample : s.KeepsFlags (s.sampled tick) := by
    unfold State.sampled
    split
    · exact ((s.samplePhase_keepsFlags .c0).trans (State.samplePhase_keepsFlags _ .c1)).trans
        (State.samplePhase_keepsFlags _ .c2)
    · exact fun _ hf => hf
  intro f hf
  have hsub : (s.afterBus tick).flag f = (s.sampled tick).flag f := by
    unfold State.afterBus State.sampled
    rfl
  rw [hsub]
  exact hsample f hf

/-- Outside a reset, a step that loses a flag is one whose transaction writes 1 to it (R36, R166). -/
theorem step_loses_flag {s t : State} {f : StickyFlag} (hrst : s.input.rst = false)
    (h : step s = .next t) (hs : s.flag f = true) (ht : t.flag f = false) :
    ∃ w, s.input.transaction = some (.wrErr w) ∧ w.getLsbD f.bit = true := by
  obtain ⟨hr, -⟩ | ⟨-, u, hbus, rfl⟩ := step_cases h
  · simp [hrst] at hr
  · have hu : u.flag f = false := Bool.eq_false_iff.mpr fun hu => by
      rw [u.afterBus_keepsFlags _ f hu] at ht
      cases ht
    have hbegin : s.beginCycle.flag f = true := hs
    obtain rfl | ⟨i, hi, heff⟩ := busPhase_effect hbus
    · cases hbegin.symm.trans hu
    · obtain ⟨w, rfl, rfl⟩ | hkeep := heff.keepsFlags
      · have hclear : (s.beginCycle.clearFlags w).flag f = false := hu
        rw [State.clearFlags_flag, hbegin] at hclear
        exact ⟨w, hi, by simpa using hclear⟩
      · cases (hkeep f hbegin).symm.trans hu

end Sys2Proof.Machine
end

section

open Sys2Proof Sys2Proof.Machine

/-- Settles O49: each clause is `step_loses_flag` for its flag. -/
theorem stickyFlagsStay : Obligations.StickyFlagsStay := by
  intro s t x rest k hinputs hrst hstep
  have hx : s.input = x := by rw [State.input, hinputs]; rfl
  subst hx
  exact ⟨step_loses_flag (f := .cfgerr k) hrst hstep, step_loses_flag (f := .luterr) hrst hstep,
    step_loses_flag (f := .clamp k) hrst hstep, step_loses_flag (f := .coll k) hrst hstep⟩

end

section
/-! SUPPORT. The lookup-table window on the bus (R93): what RD LUT answers and what WR LUT does, by whether the
entry has been written and by PGEN; and what a transaction and a step can do to the table and its size. -/

namespace Sys2Proof.Machine

/-! ## Words and their lanes (R82) -/

/-- Lane `j` of a word is the byte of weight 256 ^ j. -/
theorem lane_eq_ofNat (w : Word) (j : Nat) : lane w j = BitVec.ofNat 8 (w.toNat / 256 ^ j) := by
  have hpow : 256 ^ j = 2 ^ (8 * j) := (pow_mul 2 8 j).symm
  rw [hpow, ← Nat.shiftRight_eq_div_pow]
  rfl

/-- Bytes put above a value count with the weight of the value's width. -/
theorem toNat_append_eq_add {m n : Nat} (x : BitVec m) (y : BitVec n) :
    (x ++ y).toNat = 2 ^ n * x.toNat + y.toNat := by
  rw [BitVec.toNat_append, Nat.shiftLeft_eq, Nat.mul_comm, Nat.two_pow_add_eq_or_of_lt y.isLt]

/-- The word of four lanes, lane 0 the least significant. -/
theorem ofLanes_eq_ofNat (b0 b1 b2 b3 : Byte) :
    ofLanes b0 b1 b2 b3 =
      BitVec.ofNat 32 (b0.toNat + 256 * b1.toNat + 65536 * b2.toNat + 16777216 * b3.toNat) := by
  have hval : (ofLanes b0 b1 b2 b3).toNat =
      b0.toNat + 256 * b1.toNat + 65536 * b2.toNat + 16777216 * b3.toNat := by
    unfold ofLanes
    simp only [toNat_append_eq_add]
    omega
  rw [← hval, BitVec.ofNat_toNat, BitVec.setWidth_eq]

/-! ## Entries by their bytes -/

/-- An entry whose four bytes are listed is their word. -/
theorem Memory.readEntry_eq_some {m : Memory} {i : LutIndex} {b0 b1 b2 b3 : Byte}
    (h0 : m.readByte (lutByte i 0) = some b0) (h1 : m.readByte (lutByte i 1) = some b1)
    (h2 : m.readByte (lutByte i 2) = some b2) (h3 : m.readByte (lutByte i 3) = some b3) :
    m.readEntry i = some (ofLanes b0 b1 b2 b3) := by
  simp only [Memory.readEntry, h0, h1, h2, h3]

/-- An entry with a byte not listed has not been written (log entry 10). -/
theorem Memory.readEntry_eq_none {m : Memory} {i : LutIndex} {j : Nat} (hj : j < 4)
    (h : m.readByte (lutByte i j) = none) : m.readEntry i = none := by
  unfold Memory.readEntry
  split
  · rename_i h0 h1 h2 h3
    interval_cases j
    · cases h.symm.trans h0
    · cases h.symm.trans h1
    · cases h.symm.trans h2
    · cases h.symm.trans h3
  · rfl

/-- A written entry lists the lanes of its word. -/
theorem Memory.readByte_writeEntry_lane (m : Memory) (i : LutIndex) (v : Word) {j : Nat}
    (hj : j < 4) : (m.writeEntry i v).readByte (lutByte i j) = some (lane v j) := by
  have hin : lutByte i 0 ≤ lutByte i j ∧ lutByte i j < lutByte i 0 + 4 := by
    unfold lutByte
    omega
  have hsub : lutByte i j - lutByte i 0 = j := by
    unfold lutByte
    omega
  rw [Memory.readByte_writeEntry, if_pos hin, hsub]

/-- A write of an entry leaves the bytes outside it as they were. -/
theorem Memory.readByte_writeEntry_outside (m : Memory) (i : LutIndex) (v : Word) {a : Nat}
    (ha : a < lutByte i 0 ∨ lutByte i 0 + 4 ≤ a) :
    (m.writeEntry i v).readByte a = m.readByte a := by
  rw [Memory.readByte_writeEntry, if_neg (by omega)]

/-! ## The transactions of the window -/

/-- RD LUT reads the table and answers what the read gives. -/
theorem exec_rdLut (i : LutIndex) (s : State) :
    exec (.rdLut i) s = okay (lutRead i s).1 (lutRead i s).2 := rfl

/-- RD LUT of a written entry answers it and changes nothing (R93). -/
theorem exec_rdLut_written {s : State} {i : LutIndex} {v : Word} (h : s.lut.readEntry i = some v) :
    exec (.rdLut i) s = .next (s.respond (.okay v)) := by
  have hread : lutRead i s = (v, s) := by simp only [lutRead, h]
  rw [exec_rdLut, hread]
  rfl

/-- RD LUT of an entry not written answers the next draw and counts it (R89). -/
theorem exec_rdLut_unwritten {s : State} {i : LutIndex} (h : s.lut.readEntry i = none) :
    exec (.rdLut i) s = .next (s.countDraw.respond (.okay (Config.lutDraw s.draws))) := by
  have hread : lutRead i s = (Config.lutDraw s.draws, s.countDraw) := by simp only [lutRead, h]
  rw [exec_rdLut, hread]
  rfl

/-- WR LUT while PGEN = 0 writes the entry (R93). -/
theorem exec_wrLut_idle {s : State} (h : s.pgen = false) (i : LutIndex) (w : Word) :
    exec (.wrLut i w) s = .next ((s.lutWrite i w).respond (.okay 0)) :=
  acceptTable_idle (x := w) (upd := fun v t => t.lutWrite i v) h

/-- WR LUT while PGEN = 1 is rejected (R93). -/
theorem exec_wrLut_sequencing {s : State} (h : s.pgen = true) (i : LutIndex) (w : Word) :
    exec (.wrLut i w) s = .next (s.setLuterr.respond (.okay 0)) :=
  acceptTable_enabled (o := some w) (upd := fun v t => t.lutWrite i v) h

/-! ## What a cycle can do to the table -/

/-- What can happen to the table RAM and its size: neither changes, or the sequencer is off and the size or
one entry is written (R93, R156, R353). -/
inductive State.TableEffect (s t : State) : Prop
  | same (hn : t.lutn = s.lutn) (hm : t.lut = s.lut)
  | size (hp : s.pgen = false) (hm : t.lut = s.lut)
  | entry (hp : s.pgen = false) (e : LutIndex) (v : Word) (hm : t.lut = s.lut.writeEntry e v)

/-- The effect of every bus transaction on the table. -/
theorem BusEffect.tableEffect {s t : State} {i : Instr} (h : BusEffect s i t) : s.TableEffect t := by
  cases h with
  | lutn n hp => exact .size hp rfl
  | lut e v hp => exact .entry hp e v rfl
  | tbprd j p =>
    rw [State.setTbprd_eq]
    exact .same (by simp) (by simp)
  | cmp | duty =>
    exact .same (by simp [State.cmpBusWrite, State.dutyWrite])
      (by simp [State.cmpBusWrite, State.dutyWrite])
  | respond | draw | rejectChannel | rejectTable | gctl | err | tbctl | cmpctl | aqctl | dbctl |
      dbred | dbfed | phidx =>
    exact .same rfl rfl

/-- The rest of a cycle after its bus transaction changes neither the table nor its size (R150, R358). -/
theorem State.afterBus_keepsTable (s : State) (tick : Bool) :
    (s.afterBus tick).lutn = s.lutn ∧ (s.afterBus tick).lut = s.lut := by
  obtain ⟨hn, -, hm⟩ := s.afterBus_table tick
  rw [hn, hm]
  unfold State.sampled
  split
  · obtain ⟨-, hlutn, hlut, -⟩ := s.sampleStep_frame
    exact ⟨hlutn, hlut⟩
  · exact ⟨rfl, rfl⟩

/-- A step is a reset, which turns the sequencer off and clears the table, or has one of the effects above
on the table. -/
theorem step_table {s t : State} (h : step s = .next t) :
    (t.pgen = false ∧ t.lut = []) ∨ s.TableEffect t := by
  obtain ⟨-, rfl⟩ | ⟨-, u, hbus, rfl⟩ := step_cases h
  · exact .inl ⟨rfl, rfl⟩
  · obtain ⟨hn, hm⟩ := u.afterBus_keepsTable s.input.sampleTick
    have hu : s.beginCycle.TableEffect u := by
      obtain rfl | ⟨i, -, heff⟩ := busPhase_effect hbus
      · exact .same rfl rfl
      · exact heff.tableEffect
    refine .inr ?_
    cases hu with
    | same hn' hm' => exact .same (hn.trans hn') (hm.trans hm')
    | size hp hm' => exact .size hp (hm.trans hm')
    | entry hp e v hm' => exact .entry hp e v (hm.trans hm')

end Sys2Proof.Machine
end

section

open Sys2Proof Sys2Proof.Machine

/-- Settles O12: the empty table of a reset is canonical, and the one write that can happen to a table keeps
it so. -/
theorem stepKeepsTableCanonical : Obligations.StepKeepsTableCanonical := by
  intro s t hwf hstep
  obtain ⟨-, hm⟩ | heff := step_table hstep
  · rw [hm]
    exact Memory.wf_nil
  · cases heff with
    | same _ hm | size _ hm => rwa [hm]
    | entry _ e v hm =>
      rw [hm]
      exact Memory.writeEntry_wf hwf e v

/-- Settles O48: every change of the table needs PGEN = 0 before the step, or is the reset, which leaves
PGEN = 0. -/
theorem tableLockedWhileSequencing : Obligations.TableLockedWhileSequencing := by
  intro s t hstep hs ht
  obtain ⟨hoff, -⟩ | heff := step_table hstep
  · cases hoff.symm.trans ht
  · cases heff with
    | same hn hm => exact ⟨hn, fun a => by rw [hm]⟩
    | size hp | entry hp => cases hp.symm.trans hs

/-- Settles O20: an entry is written exactly when its four bytes are listed. -/
theorem rdLutEntryOrDraw : Obligations.RdLutEntryOrDraw := by
  refine fun i s => ⟨fun b0 b1 b2 b3 h0 h1 h2 h3 => ?_, fun ⟨j, hj, hnone⟩ => ?_⟩
  · rw [exec_rdLut_written (Memory.readEntry_eq_some h0 h1 h2 h3), ofLanes_eq_ofNat]
    rfl
  · exact exec_rdLut_unwritten (Memory.readEntry_eq_none hj hnone)

/-- Settles O31: while PGEN = 0 the new table is `writeEntry` of the old one, and its lanes, its other bytes
and its entry are read by the rules above. -/
theorem wrLutStoresEntry : Obligations.WrLutStoresEntry := by
  refine fun i w s => ⟨fun hidle => ⟨s.lut.writeEntry i w, exec_wrLut_idle hidle i w,
    fun j hj => ?_, fun a ha => ?_, fun t ht => ?_⟩, fun hseq => exec_wrLut_sequencing hseq i w⟩
  · rw [← lane_eq_ofNat]
    exact Memory.readByte_writeEntry_lane s.lut i w hj
  · exact Memory.readByte_writeEntry_outside s.lut i w ha
  · refine exec_rdLut_written ?_
    rw [ht, Memory.readEntry_writeEntry_same]

end

section
/-! SUPPORT. The address map of R81 in numbers: what each field and each address class of the decoder says of
the number of an address, and that every aligned address is a register's or is in one unmapped class. -/

namespace Sys2Proof

/-! ## Fields and classes of an address as numbers -/

/-- The number of a bit field. -/
theorem toNat_field {n : Nat} (x : BitVec n) (lo len : Nat) :
    (x.extractLsb' lo len).toNat = x.toNat / 2 ^ lo % 2 ^ len := by
  rw [BitVec.extractLsb'_toNat, Nat.shiftRight_eq_div_pow]

/-- A bit field has a value exactly when its number is that of the value. -/
theorem field_eq_iff {n len : Nat} (x : BitVec n) (lo : Nat) (v : BitVec len) :
    x.extractLsb' lo len = v ↔ x.toNat / 2 ^ lo % 2 ^ len = v.toNat := by
  rw [← BitVec.toNat_inj, toNat_field]

/-- A bit as the parity of a quotient. -/
theorem getLsbD_iff_toNat {n : Nat} (x : BitVec n) (i : Nat) :
    x.getLsbD i = true ↔ x.toNat / 2 ^ i % 2 = 1 := by
  rw [BitVec.getLsbD, Nat.testBit_eq_decide_div_mod_eq, decide_eq_true_eq]

theorem Addr.isAlign0_iff (a : Addr) : a.isAlign0 = true ↔ a.toNat % 2 = 1 := by
  simp [Addr.isAlign0, field_eq_iff]

theorem Addr.isAlign1_iff (a : Addr) : a.isAlign1 = true ↔ a.toNat % 4 = 2 := by
  simp [Addr.isAlign1, field_eq_iff]

theorem Addr.aligned_iff (a : Addr) : a.aligned = true ↔ a.toNat % 4 = 0 := by
  simp [Addr.aligned, field_eq_iff]

theorem Addr.isUnmappedGlobalPage_iff (a : Addr) :
    a.isUnmappedGlobalPage = true ↔ a.toNat % 4 = 0 ∧ 0x18 < a.toNat ∧ a.toNat < 0x100 := by
  simp only [Addr.isUnmappedGlobalPage, Bool.and_eq_true, Addr.aligned_iff, beq_iff_eq,
    field_eq_iff, decide_eq_true_eq, toNat_field, BitVec.toNat_ofNat]
  omega

theorem Addr.isUnmappedChannelOffset_iff (a : Addr) :
    a.isUnmappedChannelOffset = true ↔
      a.toNat % 4 = 0 ∧ 0x100 ≤ a.toNat ∧ a.toNat < 0x1C0 ∧ 0x2C < a.toNat % 0x40 := by
  simp only [Addr.isUnmappedChannelOffset, Bool.and_eq_true, Addr.aligned_iff, beq_iff_eq,
    bne_iff_ne, ne_eq, field_eq_iff, decide_eq_true_eq, toNat_field, BitVec.toNat_ofNat]
  omega

theorem Addr.isUnmappedChannel3_iff (a : Addr) :
    a.isUnmappedChannel3 = true ↔ a.toNat % 4 = 0 ∧ 0x1C0 ≤ a.toNat ∧ a.toNat < 0x200 := by
  simp only [Addr.isUnmappedChannel3, Bool.and_eq_true, Addr.aligned_iff, beq_iff_eq,
    field_eq_iff, BitVec.toNat_ofNat]
  omega

theorem Addr.isUnmappedPages2to15_iff (a : Addr) :
    a.isUnmappedPages2to15 = true ↔ a.toNat % 4 = 0 ∧ 0x200 ≤ a.toNat ∧ a.toNat < 0x1000 := by
  simp only [Addr.isUnmappedPages2to15, Bool.and_eq_true, Addr.aligned_iff, decide_eq_true_eq,
    toNat_field]
  omega

/-- The two misaligned classes and the aligned addresses are all there are (R113, log entry 7). -/
theorem Addr.alignment_cases (a : Addr) :
    a.isAlign0 = true ∨ a.isAlign1 = true ∨ a.aligned = true := by
  rw [a.isAlign0_iff, a.isAlign1_iff, a.aligned_iff]
  omega

/-! ## Channels and offsets -/

@[simp] theorem Ch.ofField_toNat (k : Ch) : Ch.ofField k.toNat = some k := by
  cases k <;> rfl

theorem Ch.toNat_lt (k : Ch) : k.toNat < 3 := by
  cases k <;> decide

theorem Ch.exists_toNat {n : Nat} (h : n < 3) : ∃ k : Ch, k.toNat = n := by
  interval_cases n
  · exact ⟨.c0, rfl⟩
  · exact ⟨.c1, rfl⟩
  · exact ⟨.c2, rfl⟩

@[simp] theorem ChReg.ofOffset_offset (r : ChReg) : ChReg.ofOffset r.offset = some r := by
  cases r <;> rfl

theorem ChReg.offset_le (r : ChReg) : r.offset ≤ 0x2C ∧ r.offset % 4 = 0 := by
  cases r <;> decide

theorem ChReg.offset_of_ofOffset {n : Nat} {r : ChReg} (h : ChReg.ofOffset n = some r) :
    r.offset = n := by
  unfold ChReg.ofOffset at h
  split at h <;> cases h <;> rfl

/-- The twelve registers fill the aligned offsets 0 to 0x2C (R45 to R55). -/
theorem ChReg.exists_offset {n : Nat} (hal : n % 4 = 0) (hle : n ≤ 0x2C) :
    ∃ r : ChReg, r.offset = n := by
  have hall : ∀ m, m < 12 → (ChReg.ofOffset (4 * m)).isSome = true := by decide
  obtain ⟨r, hr⟩ := Option.isSome_iff_exists.mp (hall (n / 4) (by omega))
  exact ⟨r, (ChReg.offset_of_ofOffset hr).trans (by omega)⟩

theorem ChReg.ofOffset_eq_none {n : Nat} (h : 0x2C < n) : ChReg.ofOffset n = none := by
  refine Option.eq_none_iff_forall_ne_some.mpr fun r hr => ?_
  have hoff := ChReg.offset_of_ofOffset hr
  have hle := r.offset_le
  omega

theorem chAddr_toNat (k : Ch) (r : ChReg) :
    (chAddr k r).toNat = 0x100 + 0x40 * k.toNat + r.offset := by
  have hk := k.toNat_lt
  have hr := r.offset_le
  rw [chAddr, BitVec.toNat_ofNat]
  omega

theorem lutAddr_toNat (i : LutIndex) : (lutAddr i).toNat = 0x1000 + 4 * i.toNat := by
  simp only [lutAddr, Machine.toNat_append_eq_add, BitVec.toNat_ofNat]
  omega

end Sys2Proof

namespace Sys2Proof.Machine

/-! ## Registers -/

/-- Every register stands at an aligned address (R81, R84). -/
theorem RegName.aligned_addr (r : RegName) : r.addr.aligned = true := by
  rw [Addr.aligned_iff]
  cases r with
  | id | gctl | err | lutn => rfl
  | phidx p => cases p <;> rfl
  | ch k r =>
    have hr := r.offset_le
    rw [RegName.addr, chAddr_toNat]
    omega
  | lut i =>
    rw [RegName.addr, lutAddr_toNat]
    omega

/-- Every aligned address is a register's or is in one of the unmapped classes (R56, R81). -/
theorem addr_cases {a : Addr} (hal : a.aligned = true) :
    (∃ r : RegName, r.addr = a) ∨ a.isUnmappedGlobalPage = true ∨
      a.isUnmappedChannelOffset = true ∨ a.isUnmappedChannel3 = true ∨
      a.isUnmappedPages2to15 = true := by
  simp only [Addr.isUnmappedGlobalPage_iff, Addr.isUnmappedChannelOffset_iff,
    Addr.isUnmappedChannel3_iff, Addr.isUnmappedPages2to15_iff, ← BitVec.toNat_inj]
  rw [Addr.aligned_iff] at hal
  by_cases hlut : 0x1000 ≤ a.toNat
  · refine .inl ⟨.lut (a.extractLsb' 2 10), ?_⟩
    rw [RegName.addr, lutAddr_toNat, toNat_field]
    omega
  by_cases hglobal : a.toNat ≤ 0x18
  · obtain ⟨m, hm⟩ : ∃ m, a.toNat = 4 * m := ⟨a.toNat / 4, by omega⟩
    have hlt : m < 7 := by omega
    rw [hm]
    left
    interval_cases m
    · exact ⟨.id, rfl⟩
    · exact ⟨.gctl, rfl⟩
    · exact ⟨.err, rfl⟩
    · exact ⟨.lutn, rfl⟩
    · exact ⟨.phidx .c0, rfl⟩
    · exact ⟨.phidx .c1, rfl⟩
    · exact ⟨.phidx .c2, rfl⟩
  by_cases hchannel : 0x100 ≤ a.toNat ∧ a.toNat < 0x1C0 ∧ a.toNat % 0x40 ≤ 0x2C
  · obtain ⟨k, hk⟩ := Ch.exists_toNat (n := a.toNat / 0x40 % 4) (by omega)
    obtain ⟨r, hr⟩ := ChReg.exists_offset (n := a.toNat % 0x40) (by omega) hchannel.2.2
    refine .inl ⟨.ch k r, ?_⟩
    rw [RegName.addr, chAddr_toNat, hk, hr]
    omega
  · omega

end Sys2Proof.Machine
end

section
/-! SUPPORT. The decoder by the classes of R113: what it answers for a header of each size and alignment and, for
an aligned word, for a register's address and for each unmapped class; and what the encoder gives for the
two rows of a register (R116). -/

namespace Sys2Proof

/-! ## The fields of a header (R110) -/

open Laws.RowBits (getLsbD_packHeader headerW_packHeader)

@[simp] theorem headerSize_packHeader (w : Bool) (size : BitVec 2) (a : Addr) :
    headerSize (packHeader w size a) = size := by
  refine BitVec.eq_of_getLsbD_eq fun n hn => ?_
  rw [headerSize, BitVec.getLsbD_extractLsb', getLsbD_packHeader, if_neg (by omega),
    if_pos (by omega)]
  simp [hn]

@[simp] theorem headerAddr_packHeader (w : Bool) (size : BitVec 2) (a : Addr) :
    headerAddr (packHeader w size a) = a := by
  refine BitVec.eq_of_getLsbD_eq fun n hn => ?_
  rw [headerAddr, BitVec.getLsbD_extractLsb', getLsbD_packHeader, if_pos (by omega)]
  simp [hn]

/-- A header is its three fields. -/
theorem packHeader_fields (h : Header) :
    packHeader (headerW h) (headerSize h) (headerAddr h) = h := by
  refine BitVec.eq_of_getLsbD_eq fun n hn => ?_
  rw [getLsbD_packHeader]
  split
  · rename_i hlt
    simp [headerAddr, hlt]
  · split
    · have hlt : n - 13 < 2 := by omega
      have hn13 : 13 + (n - 13) = n := by omega
      simp [headerSize, hlt, hn13]
    · have h15 : n = 15 := by omega
      rw [if_pos h15, h15, headerW]

/-- The data word a header takes: the one presented when W = 1, none when W = 0 (R110). -/
def headerData (h : Header) (w : Word) : Option Word := if headerW h then some w else none

@[simp] theorem headerData_isSome (h : Header) (w : Word) :
    (headerData h w).isSome = headerW h := by
  unfold headerData
  cases headerW h <;> rfl

@[simp] theorem headerData_packHeader (d : Option Word) (size : BitVec 2) (a : Addr) :
    headerData (packHeader d.isSome size a) (d.getD 0) = d := by
  rw [headerData, headerW_packHeader]
  cases d <;> rfl

/-- A SLVERR row built from a header's fields encodes to that header (R110). -/
theorem encodeError_fields (h : Header) (w : Word) :
    encodeError (headerSize h) (headerData h w) (headerAddr h) = some (h, headerData h w) := by
  rw [encodeError, headerData_isSome, packHeader_fields]

/-! ## SIZE and ALIGN come first (R113) -/

theorem decode_size0 {h : Header} (hs : headerSize h = 0#2) (w : Word) :
    decode h w = .slverrSize0 (headerData h w) (headerAddr h) := by
  unfold decode
  rw [hs]
  rfl

theorem decode_size1 {h : Header} (hs : headerSize h = 1#2) (w : Word) :
    decode h w = .slverrSize1 (headerData h w) (headerAddr h) := by
  unfold decode
  rw [hs]
  rfl

theorem decode_size3 {h : Header} (hs : headerSize h = 3#2) (w : Word) :
    decode h w = .slverrSize3 (headerData h w) (headerAddr h) := by
  unfold decode
  rw [hs]
  rfl

/-- A word transaction by the two low bits of its address. -/
theorem decode_size2 {h : Header} (hs : headerSize h = 2#2) (w : Word) :
    decode h w =
      if (headerAddr h).getLsbD 0 then .slverrAlign0 (headerData h w) (headerAddr h)
      else if (headerAddr h).getLsbD 1 then .slverrAlign1 (headerData h w) (headerAddr h)
      else decodeWord (headerData h w) (headerAddr h) := by
  unfold decode
  rw [hs]
  rfl

theorem decode_align0 {h : Header} (hs : headerSize h = 2#2)
    (ha : (headerAddr h).isAlign0 = true) (w : Word) :
    decode h w = .slverrAlign0 (headerData h w) (headerAddr h) := by
  rw [Addr.isAlign0_iff] at ha
  rw [decode_size2 hs, if_pos ((getLsbD_iff_toNat _ 0).mpr (by omega))]

theorem decode_align1 {h : Header} (hs : headerSize h = 2#2)
    (ha : (headerAddr h).isAlign1 = true) (w : Word) :
    decode h w = .slverrAlign1 (headerData h w) (headerAddr h) := by
  rw [Addr.isAlign1_iff] at ha
  rw [decode_size2 hs, if_neg (mt (getLsbD_iff_toNat _ 0).mp (by omega)),
    if_pos ((getLsbD_iff_toNat _ 1).mpr (by omega))]

theorem decode_aligned {h : Header} (hs : headerSize h = 2#2)
    (ha : (headerAddr h).aligned = true) (w : Word) :
    decode h w = decodeWord (headerData h w) (headerAddr h) := by
  rw [Addr.aligned_iff] at ha
  rw [decode_size2 hs, if_neg (mt (getLsbD_iff_toNat _ 0).mp (by omega)),
    if_neg (mt (getLsbD_iff_toNat _ 1).mp (by omega))]

/-- The header packed for an aligned word, with its data word, is decoded by the address alone. -/
theorem decode_wordHeader (d : Option Word) {a : Addr} (ha : a.aligned = true) :
    decode (packHeader d.isSome 2#2 a) (d.getD 0) = decodeWord d a := by
  rw [decode_aligned (headerSize_packHeader _ _ _) (by rwa [headerAddr_packHeader]),
    headerData_packHeader, headerAddr_packHeader]

/-- The four values of SIZE. -/
theorem headerSize_cases (h : Header) :
    headerSize h = 0#2 ∨ headerSize h = 1#2 ∨ headerSize h = 2#2 ∨ headerSize h = 3#2 := by
  have hall : ∀ x : BitVec 2, x = 0#2 ∨ x = 1#2 ∨ x = 2#2 ∨ x = 3#2 := by decide
  exact hall _

/-! ## An aligned word by its page -/

/-- ADDR[12] = 1 is the window of the lookup table. -/
theorem decodeWord_lut (d : Option Word) {a : Addr} (h : 0x1000 ≤ a.toNat) :
    decodeWord d a = decodeLut d (a.extractLsb' 2 10) :=
  if_pos ((getLsbD_iff_toNat a 12).mpr (by omega))

/-- Below the window the page field ADDR[11:8] is the whole page number. -/
theorem page_fields {a : Addr} (h : a.toNat < 0x1000) :
    ¬ a.getLsbD 12 = true ∧ (a.extractLsb' 8 4).toNat = a.toNat / 0x100 := by
  rw [getLsbD_iff_toNat, toNat_field]
  omega

theorem decodeWord_global (d : Option Word) {a : Addr} (h : a.toNat < 0x100) :
    decodeWord d a = decodeGlobal d a.toNat a := by
  obtain ⟨hbit, hpage⟩ := page_fields (a := a) (by omega)
  have hnum : a.toNat / 0x100 = 0 := by omega
  have hoff : (a.extractLsb' 0 8).toNat = a.toNat := by
    rw [toNat_field]
    omega
  unfold decodeWord
  rw [if_neg hbit, hpage, hnum, hoff]
  rfl

theorem decodeWord_channel (d : Option Word) {a : Addr} (hlow : 0x100 ≤ a.toNat)
    (hhigh : a.toNat < 0x200) : decodeWord d a = decodeChannel d a := by
  obtain ⟨hbit, hpage⟩ := page_fields (a := a) (by omega)
  have hnum : a.toNat / 0x100 = 1 := by omega
  unfold decodeWord
  rw [if_neg hbit, hpage, hnum]
  rfl

/-- On a channel page the channel field and the offset name the register. -/
theorem decodeChannel_mapped (d : Option Word) {a : Addr} {k : Ch} {r : ChReg}
    (hk : a.toNat / 0x40 % 4 = k.toNat) (hr : a.toNat % 0x40 = r.offset) :
    decodeChannel d a = readOrWrite d (.chRead k r) (.chWrite k r) := by
  have hfield : (a.extractLsb' 6 2).toNat = k.toNat := (toNat_field a 6 2).trans hk
  have hoff : (a.extractLsb' 0 6).toNat = r.offset := by
    rw [toNat_field]
    omega
  unfold decodeChannel
  rw [hfield, hoff, Ch.ofField_toNat, ChReg.ofOffset_offset]
  cases d <;> rfl

/-! ## The unmapped classes (R117) -/

theorem decodeWord_unmappedGlobalPage (d : Option Word) {a : Addr}
    (h : a.isUnmappedGlobalPage = true) : decodeWord d a = .slverrUnmappedGlobalPage d a := by
  obtain ⟨-, hlow, hhigh⟩ := a.isUnmappedGlobalPage_iff.mp h
  rw [decodeWord_global d hhigh, decodeGlobal] <;> omega

theorem decodeWord_unmappedChannelOffset (d : Option Word) {a : Addr}
    (h : a.isUnmappedChannelOffset = true) :
    decodeWord d a = .slverrUnmappedChannelOffset d a := by
  obtain ⟨-, hlow, hhigh, hpast⟩ := a.isUnmappedChannelOffset_iff.mp h
  obtain ⟨k, hk⟩ := Ch.exists_toNat (n := a.toNat / 0x40 % 4) (by omega)
  have hfield : (a.extractLsb' 6 2).toNat = k.toNat := (toNat_field a 6 2).trans hk.symm
  have hoff : 0x2C < (a.extractLsb' 0 6).toNat := by
    rw [toNat_field]
    omega
  rw [decodeWord_channel d hlow (by omega)]
  unfold decodeChannel
  rw [hfield, Ch.ofField_toNat, ChReg.ofOffset_eq_none hoff]

theorem decodeWord_unmappedChannel3 (d : Option Word) {a : Addr}
    (h : a.isUnmappedChannel3 = true) : decodeWord d a = .slverrUnmappedChannel3 d a := by
  obtain ⟨-, hlow, hhigh⟩ := a.isUnmappedChannel3_iff.mp h
  have hfield : (a.extractLsb' 6 2).toNat = 3 := by
    rw [toNat_field]
    omega
  rw [decodeWord_channel d (by omega) hhigh]
  unfold decodeChannel
  rw [hfield]
  rfl

theorem decodeWord_unmappedPages2to15 (d : Option Word) {a : Addr}
    (h : a.isUnmappedPages2to15 = true) : decodeWord d a = .slverrUnmappedPages2to15 d a := by
  obtain ⟨-, hlow, hhigh⟩ := a.isUnmappedPages2to15_iff.mp h
  obtain ⟨hbit, hpage⟩ := page_fields hhigh
  unfold decodeWord
  rw [if_neg hbit]
  split
  · omega
  · omega
  · rfl

end Sys2Proof

namespace Sys2Proof.Machine

/-! ## The rows of a register (R116) -/

/-- The operation of a transaction on a register: its read row, or its write row with the data word. -/
def RegName.access (d : Option Word) : RegName → Instr
  | .id => readOrWrite d .rdId .slverrRoWrId
  | .gctl => readOrWrite d .rdGctl .wrGctl
  | .err => readOrWrite d .rdErr .wrErr
  | .lutn => readOrWrite d .rdLutn .wrLutn
  | .phidx p => readOrWrite d (.phidxRead p) (.phidxWrite p)
  | .ch k r => readOrWrite d (.chRead k r) (.chWrite k r)
  | .lut i => decodeLut d i

/-- The decoder answers a register's address with the register's row. -/
theorem decodeWord_addr (d : Option Word) (r : RegName) : decodeWord d r.addr = r.access d := by
  cases r with
  | id | gctl | err | lutn => exact decodeWord_global d (by decide)
  | phidx p => cases p <;> exact decodeWord_global d (by decide)
  | ch k r =>
    have haddr := chAddr_toNat k r
    have hk := k.toNat_lt
    have hr := r.offset_le
    rw [RegName.addr, decodeWord_channel d (by omega) (by omega)]
    exact decodeChannel_mapped d (by omega) (by omega)
  | lut i =>
    have haddr := lutAddr_toNat i
    have hi : (lutAddr i).extractLsb' 2 10 = i := by
      rw [field_eq_iff]
      omega
    rw [RegName.addr, decodeWord_lut d (by omega), hi, RegName.access]

/-- A row of the word at `a`, from the headers of its two directions. -/
theorem encode_readOrWrite {rd : Instr} {wr : Word → Instr} {a : Addr}
    (hrd : encode rd = some (readHeader a, none))
    (hwr : ∀ w, encode (wr w) = some (writeHeader a, some w)) (d : Option Word) :
    encode (readOrWrite d rd wr) = encodeError 2#2 d a := by
  cases d with
  | none => exact hrd
  | some w => exact hwr w

/-- Both rows of a register have the header of R116: the register's address as a word, W for a write. -/
theorem encode_access (d : Option Word) (r : RegName) :
    encode (r.access d) = encodeError 2#2 d r.addr := by
  cases r with
  | id | gctl | err | lutn | lut => exact encode_readOrWrite rfl (fun _ => rfl) d
  | phidx p => cases p <;> exact encode_readOrWrite rfl (fun _ => rfl) d
  | ch k r => cases k <;> cases r <;> exact encode_readOrWrite rfl (fun _ => rfl) d

theorem RegName.access_wellFormed (r : RegName) (d : Option Word) : (r.access d).wellFormed = true := by
  cases r with
  | id | gctl | err | lutn | lut => cases d <;> rfl
  | phidx p => cases d <;> cases p <;> rfl
  | ch k r => cases d <;> cases k <;> cases r <;> rfl

/-- A word header of a register's address decodes to the register's row. -/
theorem decode_addr (d : Option Word) (r : RegName) :
    decode (packHeader d.isSome 2#2 r.addr) (d.getD 0) = r.access d :=
  (decode_wordHeader d r.aligned_addr).trans (decodeWord_addr d r)

end Sys2Proof.Machine
end

section
/-! SUPPORT. That encoder and decoder are inverse, for the classes of operations one at a time. -/

namespace Sys2Proof.Machine

/-- The encoding of `i` decodes to `i`, and has a data word exactly when W = 1. -/
def RoundTrips (i : Instr) : Prop :=
  ∃ h d, encode i = some (h, d) ∧ d.isSome = headerW h ∧ decode h (d.getD 0) = i

/-- An operation that the encoder packs from fields, and that they decode to. -/
theorem roundTrips_of_fields {i : Instr} {size : BitVec 2} {d : Option Word} {a : Addr}
    (he : encode i = encodeError size d a)
    (hd : decode (packHeader d.isSome size a) (d.getD 0) = i) : RoundTrips i :=
  ⟨_, d, he, (Laws.RowBits.headerW_packHeader _ _ _).symm, hd⟩

theorem roundTrips_access (d : Option Word) (r : RegName) : RoundTrips (r.access d) :=
  roundTrips_of_fields (encode_access d r) (decode_addr d r)

/-- A row that a rule of R113 decides from SIZE and the address, as `hd` says of every such header. -/
theorem roundTrips_of_rule {row : Option Word → Addr → Instr} {size : BitVec 2} (d : Option Word)
    (a : Addr) (he : encode (row d a) = encodeError size d a)
    (hd : ∀ {h : Header}, headerSize h = size → headerAddr h = a → ∀ w,
      decode h w = row (headerData h w) (headerAddr h)) : RoundTrips (row d a) := by
  refine roundTrips_of_fields he ?_
  rw [hd (headerSize_packHeader _ _ _) (headerAddr_packHeader _ _ _), headerData_packHeader,
    headerAddr_packHeader]

/-- A row the decoder answers an aligned word with. -/
theorem roundTrips_of_word {i : Instr} {d : Option Word} {a : Addr} (ha : a.aligned = true)
    (he : encode i = encodeError 2#2 d a) (hd : decodeWord d a = i) : RoundTrips i :=
  roundTrips_of_fields he ((decode_wordHeader d ha).trans hd)

/-- The decoder answers an aligned word with a row whose operands fit, and which encodes to a word at
that address. -/
theorem encode_decodeWord (d : Option Word) {a : Addr} (ha : a.aligned = true) :
    (decodeWord d a).wellFormed = true ∧ encode (decodeWord d a) = encodeError 2#2 d a := by
  obtain ⟨r, rfl⟩ | h | h | h | h := addr_cases ha
  · rw [decodeWord_addr]
    exact ⟨r.access_wellFormed d, encode_access d r⟩
  · rw [decodeWord_unmappedGlobalPage d h]
    exact ⟨h, rfl⟩
  · rw [decodeWord_unmappedChannelOffset d h]
    exact ⟨h, rfl⟩
  · rw [decodeWord_unmappedChannel3 d h]
    exact ⟨h, rfl⟩
  · rw [decodeWord_unmappedPages2to15 d h]
    exact ⟨h, rfl⟩

/-- The decoder answers every header with a row whose operands fit, and which encodes to the header's
fields. -/
theorem encode_decode (h : Header) (w : Word) :
    (decode h w).wellFormed = true ∧
      encode (decode h w) = encodeError (headerSize h) (headerData h w) (headerAddr h) := by
  obtain hs | hs | hs | hs := headerSize_cases h
  · rw [decode_size0 hs, hs]
    exact ⟨rfl, rfl⟩
  · rw [decode_size1 hs, hs]
    exact ⟨rfl, rfl⟩
  · rw [hs]
    obtain ha | ha | ha := (headerAddr h).alignment_cases
    · rw [decode_align0 hs ha]
      exact ⟨ha, rfl⟩
    · rw [decode_align1 hs ha]
      exact ⟨ha, rfl⟩
    · rw [decode_aligned hs ha]
      exact encode_decodeWord _ ha
  · rw [decode_size3 hs, hs]
    exact ⟨rfl, rfl⟩

end Sys2Proof.Machine
end

section
/-! SUPPORT. The transactions that the lines of a program present (R119). -/

namespace Sys2Proof.Machine

/-- The ports of a header and data word present the operation they decode to, with or without a tick. -/
theorem transaction_ofHeader (h : Header) (w : Word) (tick : Bool) :
    { CycleInput.ofHeader h w with sampleTick := tick }.transaction = some (decode h w) :=
  congrArg (fun g => some (decode g w)) (packHeader_fields h)

theorem Line.transaction_rd (r : RegName) (tick : Bool) :
    (Line.rd r tick).input.transaction = some (r.access none) :=
  (transaction_ofHeader _ _ _).trans (congrArg some (decode_addr none r))

theorem Line.transaction_wr (r : RegName) (w : Word) (tick : Bool) :
    (Line.wr r w tick).input.transaction = some (r.access (some w)) :=
  (transaction_ofHeader _ _ _).trans (congrArg some (decode_addr (some w) r))

end Sys2Proof.Machine
end

section

open Sys2Proof Sys2Proof.Machine

/-- Settles O1: a table entry is a register, each SLVERR row that carries an address goes by the rule of R113
for its class, and every other row has one fixed header (R116), which is evaluated. -/
theorem decodeOfEncode : Obligations.DecodeOfEncode := by
  intro i hwf hbus
  change RoundTrips i
  cases i
  case reset | sample | tbTick | halfTick => exact absurd hbus Bool.false_ne_true
  case rdLut i => exact roundTrips_access none (.lut i)
  case wrLut i w => exact roundTrips_access (some w) (.lut i)
  case slverrSize0 d a => exact roundTrips_of_rule d a rfl fun hs _ => decode_size0 hs
  case slverrSize1 d a => exact roundTrips_of_rule d a rfl fun hs _ => decode_size1 hs
  case slverrSize3 d a => exact roundTrips_of_rule d a rfl fun hs _ => decode_size3 hs
  case slverrAlign0 d a =>
    exact roundTrips_of_rule d a rfl fun hs ha => decode_align0 hs (ha ▸ hwf)
  case slverrAlign1 d a =>
    exact roundTrips_of_rule d a rfl fun hs ha => decode_align1 hs (ha ▸ hwf)
  case slverrUnmappedGlobalPage d a =>
    have hal := a.aligned_iff.mpr (a.isUnmappedGlobalPage_iff.mp hwf).1
    exact roundTrips_of_word hal rfl (decodeWord_unmappedGlobalPage d hwf)
  case slverrUnmappedChannelOffset d a =>
    have hal := a.aligned_iff.mpr (a.isUnmappedChannelOffset_iff.mp hwf).1
    exact roundTrips_of_word hal rfl (decodeWord_unmappedChannelOffset d hwf)
  case slverrUnmappedChannel3 d a =>
    have hal := a.aligned_iff.mpr (a.isUnmappedChannel3_iff.mp hwf).1
    exact roundTrips_of_word hal rfl (decodeWord_unmappedChannel3 d hwf)
  case slverrUnmappedPages2to15 d a =>
    have hal := a.aligned_iff.mpr (a.isUnmappedPages2to15_iff.mp hwf).1
    exact roundTrips_of_word hal rfl (decodeWord_unmappedPages2to15 d hwf)
  all_goals exact ⟨_, _, rfl, rfl, rfl⟩

/-- Settles O2: the operation encodes to the fields of the header, and these are the whole header. -/
theorem encodeOfDecode : Obligations.EncodeOfDecode := by
  intro h w
  obtain ⟨hwf, henc⟩ := encode_decode h w
  exact ⟨hwf, decode_isBus h w, henc.trans (encodeError_fields h w)⟩

/-- Settles O3, by evaluating the decoder on each header. -/
theorem writtenOutHeadersDecode : Obligations.WrittenOutHeadersDecode :=
  fun _ => ⟨rfl, rfl, rfl, rfl, rfl, rfl, rfl, rfl, rfl, rfl, rfl, rfl, rfl, rfl, rfl⟩

/-- Settles O60: each RD and WR line is one of the rows of its register. -/
theorem assemblerLinesPresentTheirRows : Obligations.AssemblerLinesPresentTheirRows := by
  refine ⟨fun k r i w tick => ?_, fun r h w tick => ?_, rfl, rfl, rfl⟩
  · have hrd := fun r => Line.transaction_rd r tick
    have hwr := fun r => Line.transaction_wr r w tick
    exact ⟨hrd .id, hrd .gctl, hrd .err, hrd .lutn, hrd (.phidx k), hrd (.ch k r), hrd (.lut i),
      hwr .id, hwr .gctl, hwr .err, hwr .lutn, hwr (.phidx k), hwr (.ch k r), hwr (.lut i)⟩
  · exact ⟨⟨rfl, rfl⟩, ⟨rfl, rfl⟩, ⟨transaction_ofHeader h w tick, rfl, rfl⟩, rfl, rfl, rfl⟩

end

section
/-! SUPPORT. The cycle as a whole (R150, R151): that every operation ends in a next state, and the cycle by the
input it takes. -/

namespace Sys2Proof.Machine

/-! ## Completion -/

/-- Accepted or rejected, a channel's configuration write completes (R156). -/
theorem acceptChannel_completes {α : Type} (k : Ch) (o : Option α) (upd : α → State → State)
    (s : State) : ∃ t, acceptChannel k o upd s = .next t := by
  cases hr : (s.chan k).run with
  | true => exact ⟨_, acceptChannel_running hr⟩
  | false =>
    cases o with
    | none => exact ⟨_, acceptChannel_illegal⟩
    | some x => exact ⟨_, acceptChannel_stopped hr⟩

/-- Accepted or rejected, a table configuration write completes (R156). -/
theorem acceptTable_completes {α : Type} (o : Option α) (upd : α → State → State) (s : State) :
    ∃ t, acceptTable o upd s = .next t := by
  cases hp : s.pgen with
  | true => exact ⟨_, acceptTable_enabled hp⟩
  | false =>
    cases o with
    | none => exact ⟨_, acceptTable_illegal⟩
    | some x => exact ⟨_, acceptTable_idle hp⟩

/-- Every operation completes: a write that asks for acceptance by the two lemmas above, and every other
operation is one response or one new state (R151, R390, R392). -/
theorem exec_completes (i : Instr) (s : State) : ∃ t, exec i s = .next t := by
  cases i
  case wrLutn w => exact acceptTable_completes (lutnOperand w) State.setLutn s
  case wrPhidx0 w => exact acceptTable_completes (phidxOperand s.lutn w) (State.setIdx .c0) s
  case wrPhidx1 w => exact acceptTable_completes (phidxOperand s.lutn w) (State.setIdx .c1) s
  case wrPhidx2 w => exact acceptTable_completes (phidxOperand s.lutn w) (State.setIdx .c2) s
  case wrLut i w => exact acceptTable_completes (some w) (fun v t => t.lutWrite i v) s
  case wrCh0Tbctl | wrCh1Tbctl | wrCh2Tbctl => exact acceptChannel_completes _ _ (State.setTbctl _) s
  case wrCh0Tbprd | wrCh1Tbprd | wrCh2Tbprd => exact acceptChannel_completes _ _ (State.setTbprd _) s
  case wrCh0Cmpctl | wrCh1Cmpctl | wrCh2Cmpctl =>
    exact acceptChannel_completes _ _ (State.setImmed _) s
  case wrCh0Aqctl | wrCh1Aqctl | wrCh2Aqctl => exact acceptChannel_completes _ _ (State.setAq _) s
  case wrCh0Dbctl | wrCh1Dbctl | wrCh2Dbctl => exact acceptChannel_completes _ _ (State.setDbctl _) s
  case wrCh0Dbred | wrCh1Dbred | wrCh2Dbred => exact acceptChannel_completes _ _ (State.setRed _) s
  case wrCh0Dbfed | wrCh1Dbfed | wrCh2Dbfed => exact acceptChannel_completes _ _ (State.setFed _) s
  all_goals exact ⟨_, rfl⟩

/-- The bus phase completes, with a transaction or without one (R154). -/
theorem runOp_completes (o : Option Instr) (s : State) : ∃ t, runOp o s = .next t := by
  cases o with
  | none => exact ⟨s, rfl⟩
  | some i => exact exec_completes i s

/-- Every cycle completes (R151). -/
theorem step_completes (s : State) : ∃ t, step s = .next t := by
  unfold step cycle
  split
  · exact exec_completes .reset _
  · obtain ⟨u, hu⟩ := runOp_completes s.input.transaction s.beginCycle
    exact ⟨u.afterBus s.input.sampleTick, by rw [hu, andThen_next, afterBus_eq]⟩

/-! ## The cycle by its input -/

/-- The coming cycle's input is the first of the list (log entry 1). -/
theorem State.input_of_cons {s : State} {x : CycleInput} {rest : List CycleInput}
    (h : s.inputs = x :: rest) : s.input = x := by
  rw [State.input, h, List.headD_cons]

/-- Outside a reset a step is the bus phase and the rest of the cycle (R150). -/
theorem step_without_reset {s : State} (hrst : s.input.rst = false) :
    step s = andThen (runOp s.input.transaction s.beginCycle) (afterBus s.input.sampleTick) := by
  unfold step cycle
  rw [hrst, if_neg Bool.false_ne_true]

/-- A cycle that presents a request runs what its header and data decode to (R150, R110). -/
theorem CycleInput.transaction_of_req {x : CycleInput} (h : x.busReq = true) :
    x.transaction = some (decode (packHeader x.busWe x.busSize x.busAddr) x.busWdata) := if_pos h

/-- A cycle without a request has no transaction (R154). -/
theorem CycleInput.transaction_of_not_req {x : CycleInput} (h : x.busReq = false) :
    x.transaction = none := if_neg (Bool.eq_false_iff.mp h)

/-- A cycle without reset or transaction goes straight to the rest of the cycle (R154). -/
theorem step_without_transaction {s : State} (hrst : s.input.rst = false)
    (hreq : s.input.busReq = false) : step s = afterBus s.input.sampleTick s.beginCycle := by
  rw [step_without_reset hrst, CycleInput.transaction_of_not_req hreq, runOp_none, andThen_next]

/-! ## The parts of a cycle in one row -/

/-- Parts in a row, however they are grouped. -/
theorem andThen_assoc (r : Result) (f g : State → Result) :
    andThen (andThen r f) g = andThen r fun s => andThen (f s) g := by
  cases r <;> rfl

/-- The sample step runs when SAMPLE_TICK = 1 and PGEN = 1 (R150). -/
theorem samplePart_eq (tick : Bool) (s : State) :
    samplePart tick s = if tick = true ∧ s.pgen = true then exec .sample s else .next s := by
  unfold samplePart
  cases tick <;> cases s.pgen <;> rfl

end Sys2Proof.Machine
end

section

open Sys2Proof Sys2Proof.Machine

/-- Settles O9: the bus phase completes whatever it runs, and what follows it cannot stop. -/
theorem everyCycleCompletes : Obligations.EveryCycleCompletes := ⟨step_completes, exec_completes⟩

/-- Settles O5: the state as the cycle begins is the one the statement writes out. -/
theorem stepRunsPresentedTransaction : Obligations.StepRunsPresentedTransaction := by
  intro s x rest i hinputs hrst hreq hdecode
  have hx := State.input_of_cons hinputs
  have hbegin : s.beginCycle = { s with inputs := rest, bus := .noTransaction, wrote := none } := by
    rw [State.beginCycle, hinputs, List.tail_cons]
  have htrans : x.transaction = some i := by
    rw [CycleInput.transaction_of_req hreq, hdecode]
  rw [step_without_reset (hx ▸ hrst), hx, htrans, runOp_some, hbegin]

/-- Settles O6: both clauses on a step are the cycle without a transaction, the second with the IDLE input; the
order after the bus is that of the parts of a cycle, put in one row. -/
theorem cycleOrder : Obligations.CycleOrder := by
  refine ⟨fun s x rest hinputs hrst hreq => ?_, fun s hinputs => ?_, fun tick s => ?_⟩
  · have hx := State.input_of_cons hinputs
    rw [step_without_transaction (hx ▸ hrst) (hx ▸ hreq), hx, State.beginCycle, hinputs,
      List.tail_cons]
  · have hx : s.input = .idle := by rw [State.input, hinputs, List.headD_nil]
    rw [step_without_transaction (hx ▸ rfl) (hx ▸ rfl), hx, State.beginCycle, hinputs]
    rfl
  · simp only [Sys2Proof.Machine.afterBus, samplePart_eq, risePart, fallPart,
      Sys2Proof.Machine.substeps, andThen_assoc, andThen_next]

end

section
/-! SUPPORT. The global registers (R160 to R166): the values RD GCTL and RD ERR answer as numbers, and what
WR GCTL does to one channel. -/

namespace Sys2Proof.Machine

/-! ## Register values as numbers (R41, R42) -/

/-- A field put above a value that ends below it counts with the weight of its place. -/
theorem shiftLeft_or_ofNat (x : Nat) {y n : Nat} (h : y < 2 ^ n) :
    BitVec.ofNat 32 x <<< n ||| BitVec.ofNat 32 y = BitVec.ofNat 32 (2 ^ n * x + y) := by
  have hshift : BitVec.ofNat 32 x <<< n = BitVec.ofNat 32 (2 ^ n * x) := by
    apply BitVec.eq_of_toNat_eq
    simp [Nat.shiftLeft_eq, Nat.mul_comm]
  rw [hshift, ← BitVec.ofNat_or, ← Nat.two_pow_add_eq_or_of_lt h]

/-- The number that three bits make. -/
def PerCh.toNat (t : PerCh Bool) : Nat := t.c0.toNat + 2 * t.c1.toNat + 4 * t.c2.toNat

theorem PerCh.toNat_lt (t : PerCh Bool) : t.toNat < 8 := by
  have h0 := t.c0.toNat_lt
  have h1 := t.c1.toNat_lt
  have h2 := t.c2.toNat_lt
  unfold PerCh.toNat
  omega

/-- Three bits from bit 0 are their number. -/
theorem bitsAt_zero (t : PerCh Bool) : bitsAt t 0 = BitVec.ofNat 32 t.toNat := by
  obtain ⟨b0, b1, b2⟩ := t
  revert b0 b1 b2
  decide

/-- Three bits from bit `n` are their number shifted there. -/
theorem bitsAt_eq (t : PerCh Bool) (n : Nat) : bitsAt t n = BitVec.ofNat 32 t.toNat <<< n := by
  rw [← bitsAt_zero]
  simp only [bitsAt, bitAt, BitVec.shiftLeft_or_distrib, ← BitVec.shiftLeft_add, Nat.add_zero,
    Nat.add_comm]

/-- GCTL as a number (R41). -/
theorem gctlValue_eq (s : State) :
    gctlValue s = BitVec.ofNat 32
      (2 ^ 16 * (PerCh.ofFn fun k => (s.chan k).outen).toNat +
        (2 ^ 8 * s.pgen.toNat + (PerCh.ofFn fun k => (s.chan k).run).toNat)) := by
  have hrun := (PerCh.ofFn fun k => (s.chan k).run).toNat_lt
  have hpgen := s.pgen.toNat_lt
  rw [gctlValue, bitsAt_eq, bitsAt_zero, bitAt, BitVec.or_assoc, shiftLeft_or_ofNat _ (by omega),
    shiftLeft_or_ofNat _ (by omega)]

/-- ERR as a number (R42). -/
theorem errValue_eq (s : State) :
    errValue s = BitVec.ofNat 32
      (2 ^ 8 * s.coll.toNat + (2 ^ 4 * s.clamp.toNat +
        (2 ^ 3 * s.luterr.toNat + s.cfgerr.toNat))) := by
  have hcfgerr := s.cfgerr.toNat_lt
  have hluterr := s.luterr.toNat_lt
  have hclamp := s.clamp.toNat_lt
  rw [errValue, bitsAt_eq, bitsAt_eq, bitsAt_zero, bitAt, BitVec.or_assoc, BitVec.or_assoc,
    shiftLeft_or_ofNat _ (by omega), shiftLeft_or_ofNat _ (by omega),
    shiftLeft_or_ofNat _ (by omega)]

/-! ## A GCTL write on one channel (R162) -/

/-- RUN takes the written bit, and a start sets FRESH and EC = 0. -/
theorem Channel.setRun_eq (c : Channel) (b : Bool) :
    c.setRun b = { c with
      run := b
      fresh := if b = true ∧ c.run = false then true else c.fresh
      ec := if b = true ∧ c.run = false then 0 else c.ec } := by
  unfold Channel.setRun
  cases b <;> cases c.run <;> rfl

/-- OUTEN takes the written bit, but is not set from 0 while an error is flagged. -/
theorem Channel.setOuten_eq (c : Channel) (en cfgerr : Bool) :
    c.setOuten en cfgerr = { c with
      outen := if en = true ∧ c.outen = false ∧ cfgerr = true then false else en } := by
  unfold Channel.setOuten
  cases en <;> cases c.outen <;> cases cfgerr <;> rfl

end Sys2Proof.Machine
end

section

open Sys2Proof Sys2Proof.Machine

/-- Settles O13: neither operation reads the state (R160). -/
theorem rdIdConstant : Obligations.RdIdConstant := fun _ _ => ⟨rfl, rfl, rfl, rfl⟩

/-- Settles O14, by the fields of GCTL as one number. -/
theorem rdGctlFields : Obligations.RdGctlFields := by
  intro s
  refine (readReg_next (f := gctlValue)).mpr ?_
  rw [gctlValue_eq, State.respond]
  congr 3
  simp only [PerCh.toNat, PerCh.ofFn]
  ring

/-- Settles O15, by the fields of ERR as one number. -/
theorem rdErrFields : Obligations.RdErrFields := by
  refine ⟨fun _ => rfl, fun s => (readReg_next (f := errValue)).mpr ?_⟩
  rw [errValue_eq, State.respond]
  congr 3
  simp only [PerCh.toNat, PerCh.get]
  ring

/-- Settles O21, by what the two halves of the write do to a channel. -/
theorem wrGctlStartsStopsEnables : Obligations.WrGctlStartsStopsEnables := by
  refine fun w s => ⟨PerCh.ofFn (gctlChannel w s), rfl, fun k => ?_⟩
  rw [PerCh.get_ofFn, gctlChannel, Channel.setRun_eq, Channel.setOuten_eq]
  rfl

/-- Settles O22: each flag by `State.clearFlags_flag`. -/
theorem wrErrClearsSelectedFlags : Obligations.WrErrClearsSelectedFlags :=
  fun w s => ⟨_, _, _, rfl, fun k => ⟨s.clearFlags_flag w (.cfgerr k),
    s.clearFlags_flag w (.clamp k), s.clearFlags_flag w (.coll k)⟩⟩

end

section
/-! SUPPORT. What a bus transaction and a whole cycle can do to one channel and to PGEN, each said once: the
configuration of a running channel is locked (R156), GCTL is changed by its own write only (R161), and a start
makes its first tick in its own cycle (R162). -/

namespace Sys2Proof.Machine

/-! ## The bus transaction on one channel -/

/-- Everything a bus transaction `i` can do to a channel: nothing, a GCTL write, a write to the configuration
of a stopped channel, or a compare write. -/
inductive Channel.WriteEffect (c : Channel) : Instr → Channel → Prop
  | same {i : Instr} : Channel.WriteEffect c i c
  | gctl (w : Word) (run en cfgerr : Bool) :
      Channel.WriteEffect c (.wrGctl w) ((c.setRun run).setOuten en cfgerr)
  | configure {i : Instr} {d : Channel} (hr : c.run = false)
      (hd : d = { c with
        mode := d.mode, clkdiv := d.clkdiv, prd := d.prd, immed := d.immed, cmpa := d.cmpa
        cmps := d.cmps, aq := d.aq, dben := d.dben, pol := d.pol, half := d.half, red := d.red
        fed := d.fed }) : Channel.WriteEffect c i d
  | compare {i : Instr} {d : Channel}
      (hd : d = { c with cmpa := d.cmpa, cmps := d.cmps, duty := d.duty }) :
      Channel.WriteEffect c i d

/-- A change of one channel is one of these effects on every channel if it is one on that channel. -/
theorem Channel.WriteEffect.modChan {s : State} {i : Instr} {j : Ch} {f : Channel → Channel}
    (h : (s.chan j).WriteEffect i (f (s.chan j))) (k : Ch) :
    (s.chan k).WriteEffect i ((s.modChan j f).chan k) := by
  rw [State.modChan_chan]
  split
  · rename_i hk
    rwa [hk]
  · exact .same

/-- What a bus transaction does to the block is one of these effects on each channel. -/
theorem BusEffect.channel {s t : State} {i : Instr} (h : BusEffect s i t) (k : Ch) :
    (s.chan k).WriteEffect i (t.chan k) := by
  cases h with
  | respond | draw | rejectChannel | rejectTable | err | lutn | phidx | lut => exact .same
  | gctl w =>
    rw [State.respond_chan, State.gctlWrite_chan]
    exact .gctl w _ _ _
  | tbctl j x hr | cmpctl j x hr | aqctl j x hr | dbctl j x hr | dbred j x hr | dbfed j x hr =>
    rw [State.respond_chan]
    refine .modChan (j := j) ?_ k
    exact .configure hr rfl
  | tbprd j p hr =>
    rw [State.respond_chan, State.setTbprd_eq, State.clampIf_chan]
    exact .modChan (.configure hr rfl) k
  | cmp j w =>
    rw [State.respond_chan, State.markWrote_chan, State.cmpBusWrite, State.clampIf_chan]
    exact .modChan (.compare rfl) k
  | duty j w =>
    rw [State.respond_chan, State.markWrote_chan, State.dutyWrite, State.clampIf_chan]
    exact .modChan (.compare rfl) k

/-! ## The configuration of a channel (R156) -/

/-- The configuration of a channel: what its configuration registers hold. -/
structure ChannelConfig where
  mode : Mode
  clkdiv : BitVec 8
  prd : Tick
  immed : Bool
  aq : BitVec 16
  dben : Bool
  pol : Polarity
  half : Bool
  red : Tick
  fed : Tick

/-- The configuration a channel has. -/
def Channel.config (c : Channel) : ChannelConfig where
  mode := c.mode
  clkdiv := c.clkdiv
  prd := c.prd
  immed := c.immed
  aq := c.aq
  dben := c.dben
  pol := c.pol
  half := c.half
  red := c.red
  fed := c.fed

/-- Two channels have the same configuration when they agree field by field. -/
theorem Channel.config_eq_iff {c d : Channel} :
    d.config = c.config ↔
      d.mode = c.mode ∧ d.clkdiv = c.clkdiv ∧ d.prd = c.prd ∧ d.immed = c.immed ∧ d.aq = c.aq ∧
        d.dben = c.dben ∧ d.pol = c.pol ∧ d.half = c.half ∧ d.red = c.red ∧ d.fed = c.fed := by
  simp only [Channel.config, ChannelConfig.mk.injEq]

@[simp] theorem Channel.setRun_config (c : Channel) (b : Bool) : (c.setRun b).config = c.config := by
  rw [Channel.setRun_eq]
  rfl

@[simp] theorem Channel.setOuten_config (c : Channel) (en cfgerr : Bool) :
    (c.setOuten en cfgerr).config = c.config := rfl

/-- No bus transaction changes the configuration of a running channel (R156). -/
theorem Channel.WriteEffect.config {c d : Channel} {i : Instr} (h : c.WriteEffect i d)
    (hr : c.run = true) : d.config = c.config := by
  cases h with
  | same => rfl
  | gctl => simp
  | configure hstop => cases hr.symm.trans hstop
  | compare hd =>
    rw [hd]
    rfl

/-- The rest of a cycle changes no configuration. -/
theorem State.afterBus_config (s : State) (tick : Bool) (k : Ch) :
    ((s.afterBus tick).chan k).config = (s.chan k).config := by
  obtain ⟨-, -, hconfig⟩ := s.afterBus_channel_frame tick k
  exact Channel.config_eq_iff.mpr hconfig

/-- A step that is no reset keeps the configuration of a channel that runs as it begins. -/
theorem step_keeps_config {s t : State} {k : Ch} (h : step s = .next t)
    (hr : (s.chan k).run = true) :
    t = s.beginCycle.doReset ∨ (t.chan k).config = (s.chan k).config := by
  obtain ⟨-, rfl⟩ | ⟨-, u, hbus, rfl⟩ := step_cases h
  · exact .inl rfl
  · rw [State.afterBus_config]
    obtain rfl | ⟨i, -, heff⟩ := busPhase_effect hbus
    · exact .inr rfl
    · exact .inr ((heff.channel k).config hr)

/-! ## The bits of GCTL (R161) -/

/-- The bits of GCTL are the same in both states. -/
def State.SameGctl (s t : State) : Prop :=
  t.pgen = s.pgen ∧ ∀ k, (t.chan k).run = (s.chan k).run ∧ (t.chan k).outen = (s.chan k).outen

/-- A bus transaction that is no GCTL write keeps PGEN. -/
theorem BusEffect.pgen {s t : State} {i : Instr} (h : BusEffect s i t) :
    (∃ w, i = .wrGctl w) ∨ t.pgen = s.pgen := by
  cases h with
  | gctl w => exact .inl ⟨w, rfl⟩
  | tbprd j p =>
    rw [State.setTbprd_eq]
    exact .inr (by simp)
  | cmp | duty => exact .inr (by simp [State.cmpBusWrite, State.dutyWrite])
  | respond | draw | rejectChannel | rejectTable | err | tbctl | cmpctl | aqctl | dbctl | dbred |
      dbfed | lutn | phidx | lut =>
    exact .inr rfl

/-- A bus transaction that is no GCTL write keeps RUN and OUTEN. -/
theorem Channel.WriteEffect.run_outen {c d : Channel} {i : Instr} (h : c.WriteEffect i d) :
    (∃ w, i = .wrGctl w) ∨ (d.run = c.run ∧ d.outen = c.outen) := by
  cases h with
  | same => exact .inr ⟨rfl, rfl⟩
  | gctl w => exact .inl ⟨w, rfl⟩
  | configure _ hd | compare hd =>
    rw [hd]
    exact .inr ⟨rfl, rfl⟩

/-- A bus transaction that is no GCTL write keeps the bits of GCTL (R161). -/
theorem BusEffect.sameGctl {s t : State} {i : Instr} (h : BusEffect s i t)
    (hi : ∀ w, i ≠ .wrGctl w) : s.SameGctl t :=
  have hno : ¬ ∃ w, i = .wrGctl w := fun ⟨w, hw⟩ => hi w hw
  ⟨h.pgen.resolve_left hno, fun k => (h.channel k).run_outen.resolve_left hno⟩

/-- The rest of a cycle keeps the bits of GCTL (R161). -/
theorem State.SameGctl.afterBus {s t : State} (h : s.SameGctl t) (tick : Bool) :
    s.SameGctl (t.afterBus tick) := by
  obtain ⟨hpgen, hchan⟩ := h
  obtain ⟨-, hpgen', -⟩ := t.afterBus_frame tick
  refine ⟨hpgen'.trans hpgen, fun k => ?_⟩
  obtain ⟨hrun, houten⟩ := hchan k
  obtain ⟨hrun', houten', -⟩ := t.afterBus_channel_frame tick k
  exact ⟨hrun'.trans hrun, houten'.trans houten⟩

/-! ## A start in its own cycle (R162, R196, R232) -/

/-- A channel that has just been started: it runs, with a start pending at EC = 0 (R162). -/
structure Channel.Started (c : Channel) : Prop where
  run : c.run = true
  fresh : c.fresh = true
  ec : c.ec = 0

/-- A GCTL write with RUN = 1 to a stopped channel starts it (R162). -/
theorem gctlChannel_started {s : State} {w : Word} {k : Ch} (hr : (s.chan k).run = false)
    (hw : gctlRun w k = true) : (gctlChannel w s k).Started := by
  unfold gctlChannel
  rw [hw, Channel.setRun_start hr]
  exact ⟨rfl, rfl, rfl⟩

/-- A GCTL write changes no configuration. -/
theorem gctlChannel_config (w : Word) (s : State) (k : Ch) :
    (gctlChannel w s k).config = (s.chan k).config := by
  simp [gctlChannel]

/-- The sample step keeps a channel's start pending, and its configuration (R358). -/
theorem State.sampled_started {s : State} {k : Ch} (h : (s.chan k).Started) (tick : Bool) :
    ((s.sampled tick).chan k).Started ∧ ((s.sampled tick).chan k).config = (s.chan k).config := by
  unfold State.sampled
  split
  · obtain ⟨w, hw⟩ := s.sampleStep_chan k
    rw [hw]
    exact ⟨⟨h.run, h.fresh, h.ec⟩, rfl⟩
  · exact ⟨h, rfl⟩

/-- The sub-step of a running channel at EC = 0 is a tick (R193). -/
theorem Channel.substep_tick {c : Channel} (hr : c.run = true) (he : c.ec = 0) :
    c.substep = c.tbTick.advanceEc := by
  simp only [Channel.substep, hr, he, if_true]

/-- A sub-step away from EC = 0 makes no tick: the counter and the compare values stay (R193). -/
theorem Channel.substep_between {c : Channel} (he : c.ec ≠ 0) :
    c.substep.ctr = c.ctr ∧ c.substep.dir = c.dir ∧ c.substep.cmpa = c.cmpa ∧
      c.substep.cmps = c.cmps ∧ c.substep.fresh = c.fresh := by
  unfold Channel.substep
  rw [if_neg he]
  split
  · split <;> simp
  · simp

/-- The counter and its direction at a start (R196). -/
theorem startValue_eq (m : Mode) (p : Tick) :
    startValue m p = (if m = .down then p else 0, if m = .down then .down else .up) := by
  cases m <;> rfl

/-- The first sub-step of a started channel makes its first tick (R196, R232 point 1). -/
theorem Channel.Started.substep {c : Channel} (h : c.Started) :
    c.substep.run = true ∧ c.substep.fresh = false ∧
      (c.substep.ctr, c.substep.dir) = startValue c.mode c.prd ∧
      c.substep.cmpa = c.substep.cmps ∧ c.substep.ec.toNat = 1 := by
  obtain ⟨hrun, -⟩ := c.substep_frame
  have hdiv : 1 < 2 * c.div := by unfold Channel.div; omega
  have hec : c.substep.ec.toNat = 1 := by
    rw [Channel.substep_ec h.run, h.ec]
    exact Nat.mod_eq_of_lt hdiv
  refine ⟨hrun.trans h.run, ?_, ?_, ?_, hec⟩ <;> rw [Channel.substep_tick h.run h.ec]
  · simp
  · simp [Channel.tbTick_ctr, Channel.tbTick_dir, Channel.count_ctr, Channel.count_dir, h.fresh]
  · simp [Channel.tbTick_cmpa, h.fresh]

/-- The two sub-steps of the cycle in which a channel is started: the tick, and a sub-step without one. -/
theorem Channel.Started.substep_substep {c : Channel} (h : c.Started) :
    c.substep.substep.run = true ∧ c.substep.substep.fresh = false ∧
      (c.substep.substep.ctr, c.substep.substep.dir) = startValue c.mode c.prd ∧
      c.substep.substep.cmpa = c.substep.substep.cmps ∧
      c.substep.substep.ec.toNat = 2 % (2 * c.div) := by
  obtain ⟨hrun, hfresh, hstart, hload, hec⟩ := h.substep
  obtain ⟨hctr, hdir, hcmpa, hcmps, hfresh'⟩ :=
    Channel.substep_between (c := c.substep) fun h0 => by simp [h0] at hec
  obtain ⟨hrun', -⟩ := c.substep.substep_frame
  obtain ⟨-, -, -, hdiv, -⟩ := c.substep_frame
  refine ⟨hrun'.trans hrun, hfresh'.trans hfresh, by rw [hctr, hdir, hstart],
    hcmpa.trans (hload.trans hcmps.symm), ?_⟩
  rw [Channel.substep_ec hrun, hec, Channel.div, hdiv, Channel.div]

/-- The step of a GCTL write is the write and the rest of the cycle. -/
theorem step_wrGctl {s : State} {w : Word} (hrst : s.input.rst = false)
    (htrans : s.input.transaction = some (.wrGctl w)) :
    step s = .next (((s.beginCycle.gctlWrite w).respond (.okay 0)).afterBus s.input.sampleTick) := by
  rw [step_without_reset hrst, htrans, runOp_some]
  exact afterBus_eq _ _

end Sys2Proof.Machine
end

section

open Sys2Proof Sys2Proof.Machine

/-- Settles O47: a step locks the configuration of a running channel unless it is a reset, which stops every
channel. -/
theorem configurationLockedWhileRunning : Obligations.ConfigurationLockedWhileRunning := by
  intro s t k hstep hs ht
  obtain rfl | hconfig := step_keeps_config hstep hs
  · have hreset : (s.beginCycle.doReset.chan k).run = false :=
      congrArg Channel.run (State.reset_chan k)
    cases hreset.symm.trans ht
  · exact Channel.config_eq_iff.mp hconfig

/-- Settles O50: neither the bus phase nor the rest of the cycle touches the bits of GCTL. -/
theorem gctlChangesOnlyByWrite : Obligations.GctlChangesOnlyByWrite := by
  intro s t hstep hrst hno
  obtain ⟨hreset, -⟩ | ⟨-, u, hbus, rfl⟩ := step_cases hstep
  · cases hrst.symm.trans hreset
  · have hu : s.beginCycle.SameGctl u := by
      obtain rfl | ⟨i, hi, heff⟩ := busPhase_effect hbus
      · exact ⟨rfl, fun _ => ⟨rfl, rfl⟩⟩
      · exact heff.sameGctl fun w hw => hno w (hi.trans (congrArg some hw))
    exact hu.afterBus s.input.sampleTick

/-- Settles O54: the write leaves the channel started, and its two sub-steps follow in the same cycle. -/
theorem startTicksInItsCycle : Obligations.StartTicksInItsCycle := by
  intro s t x rest w k _ hinputs hrst htrans hw hstop hstep
  have hx := State.input_of_cons hinputs
  rw [step_wrGctl (hx ▸ hrst) (hx ▸ htrans), next_inj] at hstep
  have hbus : ((s.beginCycle.gctlWrite w).respond (.okay 0)).chan k =
      gctlChannel w s.beginCycle k := by
    rw [State.respond_chan, State.gctlWrite_chan]
  have hstarted : (((s.beginCycle.gctlWrite w).respond (.okay 0)).chan k).Started :=
    hbus ▸ gctlChannel_started hstop hw
  obtain ⟨hready, hconfig⟩ := State.sampled_started hstarted s.input.sampleTick
  rw [hbus, gctlChannel_config] at hconfig
  obtain ⟨hmode, hclkdiv, hprd, -⟩ := Channel.config_eq_iff.mp hconfig
  obtain ⟨hrun, hfresh, hstart, hload, hec⟩ := hready.substep_substep
  rw [← State.afterBus_chan, hstep] at hrun hfresh hstart hload hec
  rw [hmode, hprd, startValue_eq, Prod.mk.injEq] at hstart
  rw [Channel.div, hclkdiv] at hec
  exact ⟨hrun, hfresh, hstart.1, hstart.2, hload, hec⟩

end

section
/-! SUPPORT. The timebase (R193 to R200): what a tick and a half tick do to a channel and which sub-step runs
them, each said once, and where the counter stands after any number of ticks (R198). -/

namespace Sys2Proof.Machine

/-! ## The ticks as operations -/

theorem exec_tbTick (k : Ch) (s : State) :
    exec (.tbTick k) s = .next (s.modChan k Channel.tbTick) := rfl

theorem exec_halfTick (k : Ch) (s : State) :
    exec (.halfTick k) s = .next (s.modChan k Channel.halfTick) := rfl

/-- Ticks in a row change one channel, tick by tick. -/
theorem execTimes_tbTick (k : Ch) (n : Nat) (s : State) :
    execTimes (.tbTick k) n s = .next (s.modChan k Channel.tbTick^[n]) := by
  induction n generalizing s with
  | zero => simp [execTimes, State.modChan, State.setChan, State.chan]
  | succ n ih => rw [execTimes, exec_tbTick, andThen_next, ih, State.modChan_modChan]; rfl

/-! ## One tick of a channel -/

/-- The qualifier and the dead-time step after it change QA, QB and DTC only (R273, R313). -/
theorem Channel.drive_frame (c : Channel) :
    c.drive = { c with qa := c.drive.qa, qb := c.drive.qb, dtc := c.drive.dtc } := rfl

/-- A tick changes CTR, DIR, FRESH, CMPA, QA, QB and DTC only (R194). -/
theorem Channel.tbTick_frame (c : Channel) :
    c.tbTick = { c with
      ctr := c.tbTick.ctr, dir := c.tbTick.dir, fresh := false, cmpa := c.tbTick.cmpa
      qa := c.tbTick.qa, qb := c.tbTick.qb, dtc := c.tbTick.dtc } := by
  rw [Channel.tbTick]
  refine (Channel.drive_frame _).trans ?_
  simp

/-- The first tick after a start places the counter (R196). -/
theorem Channel.tbTick_start {c : Channel} (h : c.fresh = true) :
    c.tbTick.ctr = (startValue c.mode c.prd).1 ∧ c.tbTick.dir = (startValue c.mode c.prd).2 := by
  rw [Channel.tbTick_ctr, Channel.tbTick_dir, Channel.count_ctr, Channel.count_dir]
  exact ⟨if_pos h, if_pos h⟩

/-- Every later tick moves it (R197). -/
theorem Channel.tbTick_next {c : Channel} (h : c.fresh = false) :
    c.tbTick.ctr = (nextValue c.mode c.prd c.ctr c.dir).1 ∧
      c.tbTick.dir = (nextValue c.mode c.prd c.ctr c.dir).2 := by
  rw [Channel.tbTick_ctr, Channel.tbTick_dir, Channel.count_ctr, Channel.count_dir, h]
  exact ⟨rfl, rfl⟩

/-! ## The moves of the counter as numbers (R197) -/

theorem nextValue_up (p x : Tick) (d : Dir) :
    (nextValue .up p x d).2 = .up ∧
      (nextValue .up p x d).1.toNat = if p.toNat ≤ x.toNat then 0 else x.toNat + 1 := by
  refine ⟨rfl, ?_⟩
  simp only [nextValue]
  split <;> bv_omega

theorem nextValue_down (p x : Tick) (d : Dir) :
    (nextValue .down p x d).2 = .down ∧
      (nextValue .down p x d).1.toNat = if x.toNat = 0 then p.toNat else x.toNat - 1 := by
  refine ⟨rfl, ?_⟩
  simp only [nextValue]
  split <;> split <;> bv_omega

theorem nextValue_upDown_zero (x : Tick) (d : Dir) : nextValue .upDown 0 x d = (0, .up) := rfl

/-- UpDown going up, below the period. -/
theorem nextValue_upDown_rising {p x : Tick} (h : x.toNat < p.toNat) :
    (nextValue .upDown p x .up).1.toNat = x.toNat + 1 ∧
      (nextValue .upDown p x .up).2 = if x.toNat + 1 = p.toNat then .down else .up := by
  have hp : p ≠ 0 := by bv_omega
  have hturn : x + 1 = p ↔ x.toNat + 1 = p.toNat := by bv_omega
  rw [nextValue, if_neg hp]
  exact ⟨by bv_omega, if_congr hturn rfl rfl⟩

/-- UpDown going down, above zero. -/
theorem nextValue_upDown_falling {p x : Tick} (hp : p ≠ 0) (h : 0 < x.toNat) :
    (nextValue .upDown p x .down).1.toNat = x.toNat - 1 ∧
      (nextValue .upDown p x .down).2 = if x.toNat - 1 = 0 then .up else .down := by
  have hturn : x - 1 = 0 ↔ x.toNat - 1 = 0 := by bv_omega
  rw [nextValue, if_neg hp]
  exact ⟨by bv_omega, if_congr hturn rfl rfl⟩

/-! ## The counter sequences (R198) -/

/-- Place `r` of UpDown's sequence of `2 * p` places: up from 0, and down again from `p` (R198). -/
def upDownAt (p r : Nat) : Nat × Dir := if r < p then (r, .up) else (2 * p - r, .down)

theorem upDownAt_rising {p r : Nat} (h : r < p) : upDownAt p r = (r, .up) := if_pos h

theorem upDownAt_falling {p r : Nat} (h : p ≤ r) : upDownAt p r = (2 * p - r, .down) :=
  if_neg (Nat.not_lt.mpr h)

/-- The counter and its direction after `n` moves from a start, with the period `p` (R198). -/
def counterAt (mode : Mode) (p n : Nat) : Nat × Dir :=
  match mode with
  | .up => (n % (p + 1), .up)
  | .down => (p - n % (p + 1), .down)
  | .upDown => if p = 0 then (0, .up) else upDownAt p (n % (2 * p))

/-- With the period 0 the counter stays at 0. -/
theorem counterAt_zero (m : Mode) (n : Nat) : (counterAt m 0 n).1 = 0 := by
  cases m with
  | up => exact Nat.mod_one n
  | down => exact Nat.zero_sub _
  | upDown => rfl

/-- The next count modulo `m`. -/
theorem succ_mod_eq (n : Nat) {m : Nat} (hm : 0 < m) :
    (n + 1) % m = if n % m + 1 = m then 0 else n % m + 1 := by
  have hlt := Nat.mod_lt n hm
  rw [← Nat.mod_add_mod]
  split
  · rename_i h
    rw [h, Nat.mod_self]
  · exact Nat.mod_eq_of_lt (by omega)

/-- The sequence begins where a start places the counter (R196). -/
theorem startValue_counterAt (m : Mode) (p : Tick) :
    ((startValue m p).1.toNat, (startValue m p).2) = counterAt m p.toNat 0 := by
  cases m with
  | up => simp [startValue, counterAt]
  | down => simp [startValue, counterAt]
  | upDown =>
    rw [counterAt]
    split
    · rfl
    · rw [Nat.zero_mod, upDownAt_rising (by omega)]
      rfl

/-- UpDown's move goes from each place of its sequence to the next, and from the last to the first. -/
theorem nextValue_upDownAt {p x : Tick} {d : Dir} {r : Nat} (hr : r < 2 * p.toNat)
    (h : (x.toNat, d) = upDownAt p.toNat r) :
    ((nextValue .upDown p x d).1.toNat, (nextValue .upDown p x d).2) =
      upDownAt p.toNat (if r + 1 = 2 * p.toNat then 0 else r + 1) := by
  obtain hlow | hhigh := Nat.lt_or_ge r p.toNat
  · rw [upDownAt_rising hlow] at h
    obtain ⟨hx, rfl⟩ := Prod.mk.inj h
    obtain ⟨hctr, hdir⟩ := nextValue_upDown_rising (hx ▸ hlow)
    rw [hctr, hdir, hx, if_neg (show ¬ r + 1 = 2 * p.toNat by omega)]
    by_cases hturn : r + 1 = p.toNat
    · rw [if_pos hturn, upDownAt_falling (by omega)]
      congr 1
      omega
    · rw [if_neg hturn, upDownAt_rising (by omega)]
  · rw [upDownAt_falling hhigh] at h
    obtain ⟨hx, rfl⟩ := Prod.mk.inj h
    obtain ⟨hctr, hdir⟩ := nextValue_upDown_falling (p := p) (x := x) (by bv_omega) (by omega)
    rw [hctr, hdir, hx]
    by_cases hturn : r + 1 = 2 * p.toNat
    · rw [if_pos hturn, if_pos (by omega), upDownAt_rising (by omega)]
      congr 1
      omega
    · rw [if_neg hturn, if_neg (by omega), upDownAt_falling (by omega)]
      congr 1

/-- The move of R197 goes from each place of the sequence to the next one. -/
theorem nextValue_counterAt {m : Mode} {p x : Tick} {d : Dir} {n : Nat}
    (h : (x.toNat, d) = counterAt m p.toNat n) :
    ((nextValue m p x d).1.toNat, (nextValue m p x d).2) = counterAt m p.toNat (n + 1) := by
  have hpos : 0 < p.toNat + 1 := p.toNat.succ_pos
  have hlt := Nat.mod_lt n hpos
  cases m with
  | up =>
    obtain ⟨hx, -⟩ := Prod.mk.inj h
    obtain ⟨hdir, hctr⟩ := nextValue_up p x d
    rw [counterAt, hdir, hctr, hx, succ_mod_eq n hpos]
    congr 1
    split <;> split <;> omega
  | down =>
    obtain ⟨hx, -⟩ := Prod.mk.inj h
    obtain ⟨hdir, hctr⟩ := nextValue_down p x d
    rw [counterAt, hdir, hctr, hx, succ_mod_eq n hpos]
    congr 1
    split <;> split <;> omega
  | upDown =>
    by_cases hp : p.toNat = 0
    · rw [show p = 0 by bv_omega, nextValue_upDown_zero]
      rfl
    · have hpos : 0 < 2 * p.toNat := by omega
      rw [counterAt, if_neg hp] at h ⊢
      rw [succ_mod_eq n hpos]
      exact nextValue_upDownAt (Nat.mod_lt n hpos) h

/-- Ticks leave MODE and PRD alone. -/
theorem Channel.tbTick_iterate_frame (c : Channel) (n : Nat) :
    (Channel.tbTick^[n] c).mode = c.mode ∧ (Channel.tbTick^[n] c).prd = c.prd := by
  induction n with
  | zero => exact ⟨rfl, rfl⟩
  | succ n ih =>
    rw [Function.iterate_succ_apply', Channel.tbTick_mode, Channel.tbTick_prd]
    exact ih

/-- The counter after a start's tick and `n` more. -/
theorem Channel.tbTick_iterate_counter {c : Channel} (h : c.fresh = true) (n : Nat) :
    ((Channel.tbTick^[n + 1] c).ctr.toNat, (Channel.tbTick^[n + 1] c).dir) =
      counterAt c.mode c.prd.toNat n := by
  induction n with
  | zero =>
    obtain ⟨hctr, hdir⟩ := Channel.tbTick_start h
    rw [← startValue_counterAt, ← hctr, ← hdir]
    rfl
  | succ n ih =>
    obtain ⟨hmode, hprd⟩ := c.tbTick_iterate_frame (n + 1)
    have hfresh : (Channel.tbTick^[n + 1] c).fresh = false := by
      rw [Function.iterate_succ_apply', Channel.tbTick_fresh]
    obtain ⟨hctr, hdir⟩ := Channel.tbTick_next hfresh
    rw [hmode, hprd] at hctr hdir
    rw [Function.iterate_succ_apply', hctr, hdir]
    exact nextValue_counterAt ih

/-! ## A sub-step by the operation it selects (R193) -/

/-- A sub-step of a running channel is the operation it selects, then the prescaler's count. -/
theorem substep_running {k : Ch} {s : State} (h : (s.chan k).run = true) :
    substep k s =
      andThen (runOp ((s.chan k).selects k) s) fun t => .next (t.modChan k Channel.advanceEc) :=
  if_pos h

theorem substep_stopped {k : Ch} {s : State} (h : (s.chan k).run = false) :
    substep k s = .next s := if_neg (Bool.eq_false_iff.mp h)

/-- At EC = 0 the tick is selected. -/
theorem Channel.selects_tbTick {c : Channel} (hr : c.run = true) (he : c.ec = 0) (k : Ch) :
    c.selects k = some (.tbTick k) := by
  rw [Channel.selects, if_pos hr, if_pos he]

/-- At EC = DIV, with HALF = 1, the half tick is selected. -/
theorem Channel.selects_halfTick {c : Channel} (hr : c.run = true) (he : c.ec ≠ 0)
    (hd : c.ec.toNat = c.div) (hh : c.half = true) (k : Ch) : c.selects k = some (.halfTick k) := by
  rw [Channel.selects, if_pos hr, if_neg he, if_pos (by simp [hd, hh])]

/-- At every other count nothing is selected. -/
theorem Channel.selects_none {c : Channel} (hr : c.run = true) (he : c.ec ≠ 0)
    (hd : ¬ (c.ec.toNat = c.div ∧ c.half = true)) (k : Ch) : c.selects k = none := by
  rw [Channel.selects, if_pos hr, if_neg he, if_neg (by simpa using hd)]

/-! ## A stopped channel in a cycle (R200) -/

/-- The rest of a cycle leaves a channel that is stopped, and that no sample step writes to, as it was. -/
theorem State.afterBus_stopped {s : State} {k : Ch} (h : (s.chan k).run = false) :
    (s.afterBus false).chan k = s.chan k ∧ (s.afterBus false).pinsRise.get k = (s.chan k).pins ∧
      (s.afterBus false).pinsFall.get k = (s.chan k).pins := by
  have hsampled : s.sampled false = s := rfl
  have hchan : (s.afterBus false).chan k = s.chan k := by
    rw [State.afterBus_chan, hsampled, Channel.substep_stopped h, Channel.substep_stopped h]
  obtain ⟨hrise, hfall⟩ := s.afterBus_pins false k
  rw [hsampled, Channel.substep_stopped h] at hrise
  rw [hchan] at hfall
  exact ⟨hchan, hrise, hfall⟩

end Sys2Proof.Machine
end

section

open Sys2Proof Sys2Proof.Machine

/-- Settles O52: the counter after `n + 1` ticks is in place `n` of its mode's sequence. -/
theorem counterPeriods : Obligations.CounterPeriods := by
  intro k s n p hfresh hp
  have hplace := Channel.tbTick_iterate_counter hfresh n
  rw [hp, ← State.modChan_chan_same s k Channel.tbTick^[n + 1]] at hplace
  refine ⟨_, execTimes_tbTick k (n + 1) s, fun hm => ?_, fun hm => ?_, fun hm hpos hlow => ?_,
    fun hm hpos hhigh => ?_, fun hzero => ?_⟩
  · rw [hm] at hplace
    exact (Prod.mk.inj hplace).symm
  · rw [hm] at hplace
    exact (Prod.mk.inj hplace).symm
  · rw [hm, counterAt, if_neg hpos.ne', upDownAt_rising hlow] at hplace
    exact (Prod.mk.inj hplace).symm
  · rw [hm, counterAt, if_neg hpos.ne', upDownAt_falling hhigh] at hplace
    exact (Prod.mk.inj hplace).symm
  · rw [hzero] at hplace
    exact BitVec.eq_of_toNat_eq ((congrArg Prod.fst hplace).trans (counterAt_zero _ n))

/-- Settles O56: without reset, transaction and sample tick a step is the rest of a cycle, which has nothing
to do for a stopped channel. -/
theorem stoppedChannelIsFrozen : Obligations.StoppedChannelIsFrozen := by
  intro s t k hrst hreq htick hstop hstep
  rw [step_without_transaction hrst hreq, htick, afterBus_eq, next_inj] at hstep
  subst hstep
  exact State.afterBus_stopped (s := s.beginCycle) hstop

/-- Settles O7: the operation by the count, each case of `Channel.selects` once. -/
theorem substepSelection : Obligations.SubstepSelection := by
  refine ⟨fun c => ⟨c.advanceEc_ec, rfl⟩, fun k s => ⟨substep_stopped, fun hr he => ?_,
    fun hr he hd hh => ?_, fun hr he hd => ?_⟩⟩
  · rw [substep_running hr, Channel.selects_tbTick hr he]
    rfl
  · rw [substep_running hr, Channel.selects_halfTick hr he hd hh]
    rfl
  · rw [substep_running hr, Channel.selects_none hr he hd]
    rfl

/-- Settles O36: the channel after the tick, its counter by the moves of R196 and R197. -/
theorem tbTickCountsByMode : Obligations.TbTickCountsByMode := by
  intro k s
  refine ⟨(s.chan k).tbTick, exec_tbTick k s, Channel.tbTick_frame _, fun hf => ?_,
    fun hf hm => ?_, fun hf hm => ?_, fun hf hm hp => ?_, fun hf hm hp hd hlt => ?_,
    fun hf hm hp hd hpos => ?_⟩
  · obtain ⟨hctr, hdir⟩ := Channel.tbTick_start hf
    rw [hctr, hdir]
    refine ⟨fun hm => ?_, fun hm => ?_, fun hm => ?_⟩ <;>
    · rw [hm]
      exact ⟨rfl, rfl⟩
  all_goals
    obtain ⟨hctr, hdir⟩ := Channel.tbTick_next hf
    rw [hctr, hdir, hm]
  · exact nextValue_up _ _ (s.chan k).dir
  · exact nextValue_down _ _ (s.chan k).dir
  · rw [hp, nextValue_upDown_zero]
    exact ⟨rfl, rfl⟩
  · rw [hd]
    exact nextValue_upDown_rising hlt
  · rw [hd]
    exact nextValue_upDown_falling hp hpos

/-- Settles O37, by the active compare value after a tick (R232). -/
theorem tbTickLoadsShadow : Obligations.TbTickLoadsShadow := by
  refine fun k s => ⟨_, exec_tbTick k s, ?_⟩
  rw [State.modChan_chan_same, Channel.tbTick_cmpa, ← Channel.tbTick_ctr]
  refine ⟨Channel.tbTick_cmps _, fun hload => if_pos hload, fun hf hz => if_neg ?_⟩
  rintro (hfresh | hzero)
  · cases hf.symm.trans hfresh
  · exact hz hzero

/-- Settles O39: both ticks end in a dead-time step (R313), the half tick in one without a change of QA. -/
theorem deadTimeAgeCounter : Obligations.DeadTimeAgeCounter := by
  refine fun k s => ⟨⟨_, exec_tbTick k s, ?_⟩, exec_halfTick k s⟩
  rw [State.modChan_chan_same, Channel.tbTick_dtc]
  simp only [bne_iff_ne]

end

section
/-! SUPPORT. The registers of a channel on the bus: their headers (R116), what a read of each answers, as a
number, and how a write of TBCTL (R190) and of TBPRD (R191, R192) is accepted or rejected. -/

namespace Sys2Proof.Machine

/-! ## Headers -/

/-- A word header of a register's address decodes to the register's row; a read takes no notice of the data
word. -/
theorem decode_registerHeader (W : Bool) (r : RegName) (w : Word) :
    decode (packHeader W 2#2 r.addr) w = r.access (if W then some w else none) := by
  rw [decode_aligned (headerSize_packHeader _ _ _) (by rw [headerAddr_packHeader, r.aligned_addr]),
    headerAddr_packHeader, decodeWord_addr, headerData, Laws.RowBits.headerW_packHeader]

/-- The two headers of a channel's register as numbers (R116). -/
theorem packHeader_chAddr (W : Bool) (k : Ch) (r : ChReg) :
    packHeader W 2#2 (chAddr k r) =
      BitVec.ofNat 16 ((if W then 0xC100 else 0x4100) + r.offset + 0x40 * k.toNat) := by
  cases W <;> cases k <;> cases r <;> rfl

theorem decode_chRead {r : ChReg} {h : Nat} (hh : h = 0x4100 + r.offset) (k : Ch) (w : Word) :
    decode (BitVec.ofNat 16 (h + 0x40 * k.toNat)) w = .chRead k r := by
  have hheader := packHeader_chAddr false k r
  rw [if_neg Bool.false_ne_true, ← hh] at hheader
  rw [← hheader]
  exact decode_registerHeader false (.ch k r) w

theorem decode_chWrite {r : ChReg} {h : Nat} (hh : h = 0xC100 + r.offset) (k : Ch) (w : Word) :
    decode (BitVec.ofNat 16 (h + 0x40 * k.toNat)) w = .chWrite k r w := by
  have hheader := packHeader_chAddr true k r
  rw [if_pos rfl, ← hh] at hheader
  rw [← hheader]
  exact decode_registerHeader true (.ch k r) w

/-! ## Reads -/

/-- What a read of a channel's register answers, by the register. -/
def chValue (k : Ch) : ChReg → State → Word
  | .tbctl => tbctlValue k
  | .tbprd => tbprdValue k
  | .tbctr => tbctrValue k
  | .cmpctl => cmpctlValue k
  | .cmp => cmpValue k
  | .cmpshd => cmpshdValue k
  | .duty => dutyValue k
  | .aqctl => aqctlValue k
  | .dbctl => dbctlValue k
  | .dbred => dbredValue k
  | .dbfed => dbfedValue k
  | .outst => outstValue k

/-- A read of a channel's register answers its value and changes nothing else (R155). -/
theorem exec_chRead {k : Ch} {r : ChReg} {s : State} {v : Word} (hv : chValue k r s = v) :
    exec (.chRead k r) s = .next (s.respond (.okay v)) := by
  subst hv
  cases k <;> cases r <;> rfl

/-- Taking a cycle's input leaves the register's value as it is. -/
theorem chValue_beginCycle (k : Ch) (r : ChReg) (s : State) :
    chValue k r s.beginCycle = chValue k r s := by
  cases r <;> rfl

/-- The cycle of a read answers the register's value in the state the cycle begins with (R150, R155). -/
theorem step_chRead {s : State} {x : CycleInput} {rest : List CycleInput} {k : Ch} {r : ChReg}
    {v : Word} (hinputs : s.inputs = x :: rest) (hrst : x.rst = false) (hv : chValue k r s = v)
    (htrans : x.transaction = some (.chRead k r)) : ∃ t, step s = .next t ∧ t.bus = .okay v := by
  have hx := State.input_of_cons hinputs
  refine ⟨(s.beginCycle.respond (.okay v)).afterBus x.sampleTick, ?_, ?_⟩
  · rw [step_without_reset (hx ▸ hrst), hx, htrans, runOp_some,
      exec_chRead ((chValue_beginCycle k r s).trans hv), andThen_next, afterBus_eq]
  · exact (State.afterBus_frame _ _).1

/-! ## Register values as numbers (R45 to R54) -/

theorem zext_eq {n : Nat} (v : BitVec n) : zext v = BitVec.ofNat 32 v.toNat :=
  (BitVec.ofNat_toNat 32 v).symm

/-- A field alone above zeros. -/
theorem shiftLeft_ofNat (x n : Nat) :
    BitVec.ofNat 32 x <<< n = BitVec.ofNat 32 (2 ^ n * x) := by
  simpa using shiftLeft_or_ofNat x (Nat.two_pow_pos n)

theorem bitAt_zero (b : Bool) : bitAt b 0 = BitVec.ofNat 32 b.toNat := by
  cases b <;> rfl

theorem Mode.bits_toNat (m : Mode) :
    m.bits.toNat = if m = .up then 0 else if m = .down then 1 else 2 := by
  cases m <;> rfl

theorem Dir.bit_toNat (d : Dir) : d.bit.toNat = if d = .down then 1 else 0 := by
  cases d <;> rfl

theorem tbctlValue_eq (k : Ch) (s : State) :
    tbctlValue k s =
      BitVec.ofNat 32 (256 * (s.chan k).clkdiv.toNat + (s.chan k).mode.bits.toNat) := by
  have hmode := (s.chan k).mode.bits.isLt
  rw [tbctlValue, zext_eq, zext_eq, shiftLeft_or_ofNat _ (by omega)]
  rfl

theorem tbctrValue_eq (k : Ch) (s : State) :
    tbctrValue k s =
      BitVec.ofNat 32 (65536 * (s.chan k).dir.bit.toNat + (s.chan k).ctr.toNat) := by
  rw [tbctrValue, zext_eq, zext_eq, shiftLeft_or_ofNat _ (s.chan k).ctr.isLt]
  rfl

theorem cmpValue_eq (k : Ch) (s : State) :
    cmpValue k s = BitVec.ofNat 32 (65536 * (s.chan k).cmpa.toNat) := by
  rw [cmpValue, zext_eq, shiftLeft_ofNat]
  rfl

theorem cmpshdValue_eq (k : Ch) (s : State) :
    cmpshdValue k s = BitVec.ofNat 32 (65536 * (s.chan k).cmps.toNat) := by
  rw [cmpshdValue, zext_eq, shiftLeft_ofNat]
  rfl

theorem dbctlValue_eq (k : Ch) (s : State) :
    dbctlValue k s = BitVec.ofNat 32 (8 * (s.chan k).half.toNat +
      (2 * (s.chan k).pol.bits.toNat + (s.chan k).dben.toNat)) := by
  have hpol := (s.chan k).pol.bits.isLt
  have hdben := (s.chan k).dben.toNat_lt
  rw [dbctlValue, bitAt, bitAt_zero, zext_eq, BitVec.or_assoc, shiftLeft_or_ofNat _ (by omega),
    shiftLeft_or_ofNat _ (by omega)]
  rfl

/-! ## Writes -/

theorem exec_chWrite_tbctl (k : Ch) (w : Word) (s : State) :
    exec (.chWrite k .tbctl w) s = acceptChannel k (tbctlOperand w) (State.setTbctl k) s := by
  cases k <;> rfl

theorem exec_chWrite_tbprd (k : Ch) (w : Word) (s : State) :
    exec (.chWrite k .tbprd w) s = acceptChannel k (halfOperand w) (State.setTbprd k) s := by
  cases k <;> rfl

/-- A write of a read-only register of a channel is answered SLVERR (R391). -/
theorem exec_chWrite_readOnly {r : ChReg} (hr : r ∈ [ChReg.tbctr, .cmpshd, .outst]) (k : Ch)
    (w : Word) (s : State) : exec (.chWrite k r w) s = .next (s.respond (.slverr .ro)) := by
  fin_cases hr <;> cases k <;> rfl

/-- A configuration write that is illegal in value, or finds the channel running, only sets CFGERR (R156). -/
theorem acceptChannel_rejected {α : Type} {k : Ch} {o : Option α} {upd : α → State → State}
    {s : State} (h : (s.chan k).run = true ∨ o = none) :
    acceptChannel k o upd s = .next ((s.setCfgerr k).respond (.okay 0)) := by
  obtain hrun | rfl := h
  · exact acceptChannel_running hrun
  · exact acceptChannel_illegal

theorem legalIf_false {α : Type} {b : Bool} (h : ¬ b = true) (x : α) : legalIf b x = none := if_neg h

/-- The code of a mode is read back as the mode (R45). -/
theorem Mode.ofBits_bits (m : Mode) : Mode.ofBits m.bits = some m := by
  cases m <;> rfl

/-- The operands of a legal TBCTL word: MODE's code and CLKDIV in their places, no other bit (R114). -/
theorem tbctlOperand_legal {w : Word} {m : Mode} {d : BitVec 8}
    (h : w.toNat = m.bits.toNat + 256 * d.toNat) : tbctlOperand w = some (m, d) := by
  have hm := m.bits.isLt
  have hd := d.isLt
  have hmode : w.extractLsb' 0 2 = m.bits := by
    rw [field_eq_iff]
    omega
  rw [tbctlOperand, hmode, Mode.ofBits_bits]
  refine legalIf_eq_some.mpr ⟨?_, ?_⟩
  · simp only [Bool.and_eq_true, beq_iff_eq, field_eq_iff, BitVec.toNat_zero]
    omega
  · rw [Prod.mk.injEq, field_eq_iff]
    exact ⟨rfl, by omega⟩

/-- A TBCTL word with a "must be 0" bit set or the reserved mode is illegal (R115). -/
theorem tbctlOperand_illegal {w : Word} (h : ChReg.tbctl.illegal w.toNat) : tbctlOperand w = none := by
  have hw := w.isLt
  obtain hmode | hreserved := h
  · have hbits : w.extractLsb' 0 2 = 3#2 := by
      rw [field_eq_iff, BitVec.toNat_ofNat]
      omega
    rw [tbctlOperand, hbits]
    rfl
  · rw [tbctlOperand]
    split
    · rfl
    · refine legalIf_false ?_ _
      simp only [Bool.and_eq_true, beq_iff_eq, field_eq_iff, BitVec.toNat_zero]
      omega

/-- The operand of a word whose bits 31 to 16 are 0 (R114). -/
theorem halfOperand_legal {w : Word} {v : BitVec 16} (h : w.toNat = v.toNat) :
    halfOperand w = some v := by
  refine legalIf_eq_some.mpr ⟨?_, ?_⟩
  · rw [beq_iff_eq, field_eq_iff, BitVec.toNat_zero]
    omega
  · rw [field_eq_iff]
    omega

/-- A word with a bit of 31 to 16 set is no 16-bit operand (R115). -/
theorem halfOperand_illegal {w : Word} (h : 65536 ≤ w.toNat) : halfOperand w = none := by
  have hw := w.isLt
  refine legalIf_false ?_ _
  rw [beq_iff_eq, field_eq_iff, BitVec.toNat_zero]
  omega

/-! ## The period and the compare values within it (R191, R192) -/

theorem tickMin_eq (a b : Tick) : tickMin a b = BitVec.ofNat 16 (min a.toNat b.toNat) := by
  rw [← tickMin_toNat, BitVec.ofNat_toNat, BitVec.setWidth_eq]

/-- CLAMP[k] takes the condition beside what it held. -/
theorem State.clampIf_eq (s : State) (k : Ch) (b : Bool) :
    s.clampIf k b = { s with clamp := s.clamp.set k (s.clamp.get k || b) } := by
  cases b <;> simp [State.clampIf, State.setClamp]

end Sys2Proof.Machine
end

section

open Sys2Proof Sys2Proof.Machine

/-- Settles O16: the header of each register, and each register's value as a number. -/
theorem rdChannelConfiguration : Obligations.RdChannelConfiguration := by
  refine ⟨fun k w r h hmem => ?_, fun k s => ?_⟩
  · have hh : h = 0x4100 + r.offset := by
      fin_cases hmem <;> rfl
    exact decode_chRead hh k w
  · have hpol : (s.chan k).pol.bits = 0 := by
      cases (s.chan k).pol
      rfl
    have htbctl := tbctlValue_eq k s
    have hdbctl := dbctlValue_eq k s
    rw [Mode.bits_toNat] at htbctl
    rw [← Nat.add_assoc] at hdbctl
    exact ⟨exec_chRead htbctl, exec_chRead (zext_eq (s.chan k).prd),
      exec_chRead (bitAt_zero (s.chan k).immed), exec_chRead (zext_eq (s.chan k).aq),
      exec_chRead hdbctl, exec_chRead (zext_eq (s.chan k).red), exec_chRead (zext_eq (s.chan k).fed),
      hpol⟩

/-- Settles O17: one value per register, which the operation answers and the cycle that presents it too. -/
theorem rdChannelStatus : Obligations.RdChannelStatus := by
  have htbctr (k : Ch) (s : State) : chValue k .tbctr s = BitVec.ofNat 32
      (65536 * (if (s.chan k).dir = .down then 1 else 0) + (s.chan k).ctr.toNat) := by
    rw [chValue, tbctrValue_eq, Dir.bit_toNat]
  refine ⟨fun k w r h hmem => ?_,
    fun k w => ⟨decode_chWrite (r := .tbctr) rfl k w, decode_chWrite (r := .cmpshd) rfl k w⟩,
    fun k s x rest hinputs hrst => ?_, fun k s w => ?_⟩
  · have hh : h = 0x4100 + r.offset := by
      fin_cases hmem <;> rfl
    exact decode_chRead hh k w
  · exact ⟨step_chRead hinputs hrst (htbctr k s), step_chRead hinputs hrst (cmpValue_eq k s),
      step_chRead hinputs hrst (cmpshdValue_eq k s), step_chRead hinputs hrst rfl⟩
  · exact ⟨exec_chRead (htbctr k s), exec_chRead (cmpValue_eq k s), exec_chRead (cmpshdValue_eq k s),
      exec_chRead rfl, exec_chWrite_readOnly (by simp) k w s, exec_chWrite_readOnly (by simp) k w s⟩

/-- Settles O23: the write is accepted when the channel is stopped and the word is legal, else rejected. -/
theorem wrTbctlSetsModeAndDivider : Obligations.WrTbctlSetsModeAndDivider := by
  refine ⟨fun k w => decode_chWrite (r := .tbctl) rfl k w, fun k s => ⟨fun m c d hmem hstop => ?_,
    fun w hrej => ?_⟩⟩
  · have hc : c = m.bits.toNat := by
      fin_cases hmem <;> rfl
    have hword : (BitVec.ofNat 32 (c + 256 * d.toNat)).toNat = m.bits.toNat + 256 * d.toNat := by
      rw [BitVec.toNat_ofNat]
      omega
    rw [exec_chWrite_tbctl, tbctlOperand_legal hword, acceptChannel_stopped hstop]
    rfl
  · rw [exec_chWrite_tbctl, acceptChannel_rejected (hrej.imp_right tbctlOperand_illegal)]
    rfl

/-- Settles O24: accepted and rejected like a TBCTL write; an accepted period also brings the compare values
within it. -/
theorem wrTbprdSetsPeriodAndClamps : Obligations.WrTbprdSetsPeriodAndClamps := by
  refine ⟨fun k w => decode_chWrite (r := .tbprd) rfl k w, fun k s => ⟨fun p hstop => ?_,
    fun w hrej => ?_⟩⟩
  · have hword : (BitVec.ofNat 32 p.toNat).toNat = p.toNat := by
      rw [BitVec.toNat_ofNat]
      omega
    rw [exec_chWrite_tbprd, halfOperand_legal hword, acceptChannel_stopped hstop, State.setTbprd_eq,
      State.clampIf_eq, Channel.compareAbovePeriod, ← Bool.decide_or, ← tickMin_eq, ← tickMin_eq]
    rfl
  · rw [exec_chWrite_tbprd, acceptChannel_rejected (hrej.imp_right halfOperand_illegal)]
    rfl

end

section
/-! SUPPORT. The duty converter as a number (R237, R245) and the range of the codes that the host computes
for it (R248). -/

namespace Sys2Proof.Machine

/-! ## The converter (R237) -/

/-- A code is out of range below 0 and above 1.0, as one condition (R236, R237). -/
theorem outOfRange_eq_decide (w : Word) :
    outOfRange w = decide (w.toInt < 0 ∨ 0x10000 < w.toInt) := (Bool.decide_or _ _).symm

/-- The multiplier M of R237 as one more than PRD in Down. -/
theorem dutyScale_eq (m : Mode) (p : Tick) :
    dutyScale m p = if m = .down then p.toNat + 1 else p.toNat := by
  cases m <;> rfl

/-- The multiplier is PRD or PRD + 1 (R237). -/
theorem dutyScale_bounds (m : Mode) (p : Tick) :
    p.toNat ≤ dutyScale m p ∧ dutyScale m p ≤ p.toNat + 1 := by
  rw [dutyScale_eq]
  split <;> omega

/-- The clamp does nothing to a code of a ratio from 0 to 1 (R237). -/
theorem clampedRatio_of_le {w : Word} (h : w.toNat ≤ 0x10000) : clampedRatio w = w.toNat := by
  have hcode : w.toInt = w.toNat := BitVec.toInt_eq_toNat_of_lt (by omega)
  have hclamp := clampedRatio_int w
  omega

/-- A greater code has no smaller clamped ratio (R237). -/
theorem clampedRatio_mono {v w : Word} (h : v.toInt ≤ w.toInt) : clampedRatio v ≤ clampedRatio w := by
  have hv := clampedRatio_int v
  have hw := clampedRatio_int w
  omega

/-- The ratio 1.0 scales to the multiplier itself, which the cap brings to PRD (R245 item 2). -/
theorem convert_one (m : Mode) (p : Tick) : (convert 0x10000#32 m p).1 = p := by
  have hratio : clampedRatio 0x10000#32 = 0x10000 := clampedRatio_of_le (by decide)
  have hscale := dutyScale_bounds m p
  apply BitVec.eq_of_toNat_eq
  rw [convert_toNat, hratio]
  omega

/-- The ratio 0 gives the compare value 0 (R245 item 2). -/
theorem convert_zero (m : Mode) (p : Tick) : (convert 0 m p).1 = 0 := by
  have hratio : clampedRatio 0 = 0 := clampedRatio_of_le (by decide)
  apply BitVec.eq_of_toNat_eq
  rw [convert_toNat, hratio, Nat.zero_mul]
  exact Nat.zero_min _

/-- For a ratio from 0 to 1 the scaled product is D × P or, in Down, at most 1.0 more, so the compare value
is within 1 of D × P rounded half up (R245 item 3). -/
theorem convert_near_product {w : Word} (h : w.toNat ≤ 0x10000) (m : Mode) (p : Tick) :
    (convert w m p).1.toNat ≤ (w.toNat * p.toNat + 0x8000) / 0x10000 + 1 ∧
      (w.toNat * p.toNat + 0x8000) / 0x10000 ≤ (convert w m p).1.toNat + 1 := by
  obtain ⟨hscale, hscale'⟩ := dutyScale_bounds m p
  have hbelow : w.toNat * p.toNat ≤ w.toNat * dutyScale m p := Nat.mul_le_mul_left _ hscale
  have habove : w.toNat * dutyScale m p ≤ w.toNat * p.toNat + w.toNat := Nat.mul_le_mul_left _ hscale'
  have hcap : w.toNat * p.toNat ≤ 0x10000 * p.toNat := Nat.mul_le_mul_right _ h
  rw [convert_toNat, clampedRatio_of_le h]
  omega

/-- A greater code has no smaller compare value (R245 item 4). -/
theorem convert_mono {v w : Word} (h : v.toInt ≤ w.toInt) (m : Mode) (p : Tick) :
    (convert v m p).1.toNat ≤ (convert w m p).1.toNat := by
  have hproduct := Nat.mul_le_mul_right (dutyScale m p) (clampedRatio_mono h)
  rw [convert_toNat, convert_toNat]
  omega

/-! ## The codes of the host (R248) -/

/-- The host's code is 65536 × D, rounded half up, as a signed number (R248). Just below 32768 the rounding
leaves the word, so the bound here is 32767. -/
theorem dutyCode_toInt {d : Rat} (hl : -32768 ≤ d) (hu : d < 32767) :
    (dutyCode (.real d)).toInt = (d * 65536 + 1 / 2).floor := by
  have hfloor : -2 ^ 31 ≤ (d * 65536 + 1 / 2).floor := by
    rw [Rat.le_floor_iff]
    push_cast
    linarith
  have hfloor' : (d * 65536 + 1 / 2).floor < 2 ^ 31 := by
    rw [Rat.floor_lt_iff]
    push_cast
    linarith
  have hcode : dutyCode (.real d) = BitVec.ofInt 32 (d * 65536 + 1 / 2).floor := by
    rw [dutyCode, if_neg (by linarith), if_neg (by linarith)]
  rw [hcode, BitVec.toInt_ofInt_eq_self (by decide) hfloor hfloor']

/-- A ratio from 0 to 1 has a code from 0 to 65536 (R248). -/
theorem dutyCode_inRange {d : Rat} (h0 : 0 ≤ d) (h1 : d ≤ 1) :
    0 ≤ (dutyCode (.real d)).toInt ∧ (dutyCode (.real d)).toInt ≤ 0x10000 := by
  rw [dutyCode_toInt (by linarith) (by linarith), ← Int.lt_add_one_iff (b := 0x10000),
    Rat.le_floor_iff, Rat.floor_lt_iff]
  push_cast
  constructor <;> linarith

/-- A ratio too large for a code has the greatest code (R248). -/
theorem dutyCode_large {d : Rat} (h : 32768 ≤ d) : dutyCode (.real d) = 0x7FFFFFFF#32 := if_pos h

/-- A ratio too small for a code has the least code (R248). -/
theorem dutyCode_small {d : Rat} (h : d < -32768) : dutyCode (.real d) = 0x80000000#32 := by
  rw [dutyCode, if_neg (by linarith), if_pos h]

end Sys2Proof.Machine
end

section
/-! SUPPORT. The writes of the compare registers: CMPCTL as a configuration write (R230), CMP (R238) and DUTY
(R242) as writes that a running channel takes too. -/

namespace Sys2Proof.Machine

theorem exec_chWrite_cmpctl (k : Ch) (w : Word) (s : State) :
    exec (.chWrite k .cmpctl w) s = acceptChannel k (cmpctlOperand w) (State.setImmed k) s := by
  cases k <;> rfl

theorem exec_chWrite_cmp (k : Ch) (w : Word) (s : State) :
    exec (.chWrite k .cmp w) s =
      .next (((State.cmpBusWrite k (cmpOperand w) s).markWrote k).respond (.okay 0)) := by
  cases k <;> rfl

theorem exec_chWrite_duty (k : Ch) (w : Word) (s : State) :
    exec (.chWrite k .duty w) s = .next (((s.dutyWrite k w).markWrote k).respond (.okay 0)) := by
  cases k <;> rfl

/-- The operand of a CMPCTL word without a "must be 0" bit (R114). -/
theorem cmpctlOperand_legal (b : Bool) : cmpctlOperand (BitVec.ofNat 32 b.toNat) = some b := by
  cases b <;> rfl

/-- A CMPCTL word with a "must be 0" bit set is illegal (R115). -/
theorem cmpctlOperand_illegal {w : Word} (h : ChReg.cmpctl.illegal w.toNat) : cmpctlOperand w = none := by
  have hw := w.isLt
  have hbit : 2 ≤ w.toNat := h
  refine legalIf_false ?_ _
  rw [beq_iff_eq, field_eq_iff, BitVec.toNat_zero]
  omega

/-- The operand of a CMP word is its high half (R114). -/
theorem cmpOperand_toNat (w : Word) : (cmpOperand w).toNat = w.toNat / 65536 := by
  have hw := w.isLt
  rw [cmpOperand, toNat_field]
  omega

end Sys2Proof.Machine
end

section
/-! SUPPORT. The active compare value of a running channel with shadow loading over one cycle (R232, R233): no
write reaches it, and of the sub-steps only a tick at Zero does. -/

namespace Sys2Proof.Machine

/-! ## The writes -/

/-- With IMMED = 0 a compare write changes the shadow value only (R244). -/
theorem Channel.cmpWrite_shadow {c : Channel} (h : c.immed = false) (v : Tick) :
    c.cmpWrite v = { c with cmps := v } := by
  simp [Channel.cmpWrite, h]

/-- What the writes of a cycle can change of a channel that keeps running with IMMED = 0: its output enable,
its shadow compare value and its duty code. -/
def Channel.ShadowWrite (c d : Channel) : Prop :=
  d = { c with outen := d.outen, cmps := d.cmps, duty := d.duty }

theorem Channel.ShadowWrite.refl (c : Channel) : c.ShadowWrite c := rfl

theorem Channel.ShadowWrite.trans {c d e : Channel} (h : c.ShadowWrite d) (h' : d.ShadowWrite e) :
    c.ShadowWrite e := by
  unfold Channel.ShadowWrite at *
  rw [h', h]

/-- What such writes leave as it is, of what decides the next load of the active value. -/
theorem Channel.ShadowWrite.frame {c d : Channel} (h : c.ShadowWrite d) :
    d.run = c.run ∧ d.fresh = c.fresh ∧ d.ec = c.ec ∧ d.immed = c.immed ∧ d.cmpa = c.cmpa := by
  rw [h]
  exact ⟨rfl, rfl, rfl, rfl, rfl⟩

/-- A change of one channel is such a write on a running channel with IMMED = 0 if it is one on its own
channel when that runs with IMMED = 0. -/
theorem Channel.ShadowWrite.modChan {s : State} {j k : Ch} {f : Channel → Channel}
    (hrun : (s.chan k).run = true) (himmed : (s.chan k).immed = false)
    (hf : (s.chan j).run = true → (s.chan j).immed = false →
      (s.chan j).ShadowWrite (f (s.chan j))) :
    (s.chan k).ShadowWrite ((s.modChan j f).chan k) := by
  rw [State.modChan_chan]
  split
  · rename_i hk
    subst hk
    exact hf hrun himmed
  · exact .refl _

theorem Channel.shadowWrite_cmpWrite {c : Channel} (h : c.immed = false) (v : Tick) :
    c.ShadowWrite (c.cmpWrite v) := by
  rw [Channel.cmpWrite_shadow h]
  rfl

theorem Channel.shadowWrite_dutyWrite {c : Channel} (h : c.immed = false) (w : Word) :
    c.ShadowWrite (c.dutyWrite w) := by
  rw [Channel.dutyWrite, Channel.cmpWrite_shadow h]
  rfl

/-- No bus transaction loads the active compare value of a channel that runs before and after it with
IMMED = 0 (R156, R244). -/
theorem BusEffect.shadowWrite {s t : State} {i : Instr} {k : Ch} (h : BusEffect s i t)
    (hrun : (s.chan k).run = true) (himmed : (s.chan k).immed = false)
    (hrun' : (t.chan k).run = true) : (s.chan k).ShadowWrite (t.chan k) := by
  cases h with
  | respond | draw | rejectChannel | rejectTable | err | lutn | phidx | lut => exact .refl _
  | gctl w =>
    rw [State.respond_chan, State.gctlWrite_chan, gctlChannel] at hrun' ⊢
    cases hw : gctlRun w k with
    | false =>
      rw [hw, Channel.setRun_eq] at hrun'
      exact absurd hrun' Bool.false_ne_true
    | true =>
      rw [Channel.setRun_running hrun]
      rfl
  | tbctl j x hr | cmpctl j x hr | aqctl j x hr | dbctl j x hr | dbred j x hr | dbfed j x hr =>
    rw [State.respond_chan]
    exact .modChan (j := j) hrun himmed fun hr' => by simp [hr] at hr'
  | tbprd j p hr =>
    rw [State.respond_chan, State.setTbprd_eq, State.clampIf_chan]
    exact .modChan hrun himmed fun hr' => by simp [hr] at hr'
  | cmp j w =>
    rw [State.respond_chan, State.markWrote_chan, State.cmpBusWrite, State.clampIf_chan]
    exact .modChan hrun himmed fun _ hi => Channel.shadowWrite_cmpWrite hi _
  | duty j w =>
    rw [State.respond_chan, State.markWrote_chan, State.dutyWrite, State.clampIf_chan]
    exact .modChan hrun himmed fun _ hi => Channel.shadowWrite_dutyWrite hi w

/-- Nor does the sample step (R358, R244). -/
theorem State.sampled_shadowWrite {s : State} {k : Ch} (himmed : (s.chan k).immed = false)
    (tick : Bool) : (s.chan k).ShadowWrite ((s.sampled tick).chan k) := by
  unfold State.sampled
  split
  · obtain ⟨w, hw⟩ := s.sampleStep_chan k
    rw [hw]
    exact Channel.shadowWrite_dutyWrite himmed w
  · exact .refl _

/-! ## The sub-steps -/

/-- From an even prescaler count the falling sub-step is at an odd one, so it makes no tick (R193). -/
theorem Channel.substep_ec_ne_zero {c : Channel} (hrun : c.run = true) (heven : c.ec.toNat % 2 = 0) :
    c.substep.ec ≠ 0 := by
  have hec := Channel.substep_ec hrun
  have hparity := Nat.mod_mul_right_mod (c.ec.toNat + 1) 2 c.div
  intro h0
  have h0' : c.substep.ec.toNat = 0 := congrArg BitVec.toNat h0
  omega

/-- The two sub-steps of a running channel change its active compare value only by a tick that reaches Zero,
and then to the shadow value (R232). -/
theorem Channel.substep_substep_loads {c : Channel} (hrun : c.run = true) (hfresh : c.fresh = false)
    (heven : c.ec.toNat % 2 = 0) (hne : c.substep.substep.cmpa ≠ c.cmpa) :
    c.ec = 0 ∧ c.substep.substep.ctr = 0 ∧ c.substep.substep.cmpa = c.substep.substep.cmps := by
  obtain ⟨hctr, -, hcmpa, hcmps, -⟩ :=
    Channel.substep_between (Channel.substep_ec_ne_zero hrun heven)
  rw [hcmpa] at hne
  rw [hctr, hcmpa, hcmps]
  by_cases hec : c.ec = 0
  · rw [Channel.substep_tick hrun hec] at hne ⊢
    have hload := c.tbTick_cmpa
    simp only [hfresh, Bool.false_eq_true, false_or] at hload
    have hzero : c.count.ctr = 0 := by
      by_contra hn
      exact hne (hload.trans (if_neg hn))
    rw [if_pos hzero] at hload
    refine ⟨hec, c.tbTick_ctr.trans hzero, ?_⟩
    rw [Channel.advanceEc_cmpa, Channel.advanceEc_cmps, hload, Channel.tbTick_cmps]
  · obtain ⟨-, -, hkeep, -⟩ := Channel.substep_between hec
    exact absurd hkeep hne

end Sys2Proof.Machine
end

section

open Sys2Proof Sys2Proof.Machine

/-- Settles O43: the number with the two rounding bounds is the quotient of the converter. -/
theorem conversionRoundsHalfUp : Obligations.ConversionRoundsHalfUp := by
  intro x m p d scale c hd hscale hlow hhigh
  have hproduct : ((clampedRatio x * dutyScale m p : Nat) : Int) = d * scale := by
    rw [Nat.cast_mul, clampedRatio_int, dutyScale_eq, hd, hscale]
    push_cast
    rfl
  refine ⟨outOfRange_eq_decide x, ?_⟩
  rw [convert_toNat]
  omega

/-- Settles O44, one lemma for each item of R245. -/
theorem conversionBounds : Obligations.ConversionBounds := fun m p =>
  ⟨fun x => convertValue_le x m p, convert_zero m p, convert_one m p,
    fun _ hx => convert_near_product hx m p, fun _ _ hxy => convert_mono hxy m p⟩

/-- Settles O51: the writes of the cycle leave CMPA, FRESH and EC alone, so the change is that of the two
sub-steps. -/
theorem activeCompareChangesOnlyAtZero : Obligations.ActiveCompareChangesOnlyAtZero := by
  intro s t k hinv hstep hrun hrun' himmed hne
  obtain ⟨-, rfl⟩ | ⟨-, u, hbus, rfl⟩ := step_cases hstep
  · have hreset : (s.beginCycle.doReset.chan k).run = false :=
      congrArg Channel.run (State.reset_chan k)
    cases hreset.symm.trans hrun'
  · obtain ⟨hkeep, -⟩ := u.afterBus_channel_frame s.input.sampleTick k
    have hwrite : (s.chan k).ShadowWrite (u.chan k) := by
      obtain rfl | ⟨i, -, heff⟩ := busPhase_effect hbus
      · exact .refl _
      · exact heff.shadowWrite hrun himmed (hkeep.symm.trans hrun')
    obtain ⟨-, -, -, hu, -⟩ := hwrite.frame
    obtain ⟨hkeeps, hfresh, hec, -, hcmpa⟩ :=
      (hwrite.trans (State.sampled_shadowWrite (hu.trans himmed) s.input.sampleTick)).frame
    rw [State.afterBus_chan] at hne ⊢
    rw [← hcmpa] at hne
    rw [← hec]
    exact Channel.substep_substep_loads (hkeeps.trans hrun) (hfresh.trans (hinv.started k))
      (hec ▸ hinv.rising k) hne

/-- Settles O58: in range by the bounds of the code, out of range by its extreme values. -/
theorem hostDutyCodesAreInRange : Obligations.HostDutyCodesAreInRange := by
  refine ⟨fun d h0 h1 => ?_, by decide, fun d hd => ?_⟩
  · have hrange := dutyCode_inRange h0 h1
    rw [outOfRange_eq_decide, decide_eq_false_iff_not]
    omega
  · obtain hlarge | hsmall := hd
    · rw [dutyCode_large hlarge]
      decide
    · rw [dutyCode_small hsmall]
      decide

/-- Settles O25: the write is accepted when the channel is stopped and the word is legal, else rejected. -/
theorem wrCmpctlSelectsLoadPolicy : Obligations.WrCmpctlSelectsLoadPolicy := by
  refine fun k s => ⟨fun b hstop => ?_, fun w hrej => ?_⟩
  · rw [exec_chWrite_cmpctl, cmpctlOperand_legal, acceptChannel_stopped hstop]
    rfl
  · rw [exec_chWrite_cmpctl, acceptChannel_rejected (hrej.imp_right cmpctlOperand_illegal)]
    rfl

/-- Settles O32: the compare path takes the smaller of the operand and PRD. -/
theorem wrCmpClampsToPeriod : Obligations.WrCmpClampsToPeriod := by
  intro k w s v hv
  rw [exec_chWrite_cmp, State.cmpBusWrite, State.clampIf_eq, cmpOperand_toNat, ← hv]
  have hmin : tickMin (cmpOperand w) (s.chan k).prd =
      BitVec.ofNat 16 (min v (s.chan k).prd.toNat) := by
    rw [tickMin_eq, cmpOperand_toNat, hv]
  rw [← hmin]
  rfl

/-- Settles O33: the duty path of R242, with the range test as one condition. -/
theorem wrDutyConvertsCode : Obligations.WrDutyConvertsCode := by
  intro k w s
  rw [exec_chWrite_duty, State.dutyWrite_eq, outOfRange_eq_decide]
  rfl

end

section
/-! SUPPORT. The action table (R270 to R276): its write on the bus, and the action that a tick picks for a pin, as a
code. -/

namespace Sys2Proof.Machine

/-! ## The write -/

theorem exec_chWrite_aqctl (k : Ch) (w : Word) (s : State) :
    exec (.chWrite k .aqctl w) s = acceptChannel k (halfOperand w) (State.setAq k) s := by
  cases k <;> rfl

/-! ## The action of a tick (R271 to R273) -/

/-- The code of an event's action for a pin while the event holds, else 0, the code of NoChange (R272). -/
def heldCode (aq : BitVec 16) (pin : Pin) (e : Event) (holds : Bool) : Nat :=
  if holds then (aqField aq pin e).bits.toNat else 0

theorem heldCode_decide (aq : BitVec 16) (pin : Pin) (e : Event) (p : Prop) [Decidable p] :
    heldCode aq pin e (decide p) =
      if p then aq.toNat / 2 ^ (pin.offset + e.offset) % 4 else 0 := by
  simp only [heldCode, aqField_bits, decide_eq_true_eq]

/-- Only NoChange has the code 0 (R270). -/
theorem Action.bits_toNat_eq_zero (a : Action) : a.bits.toNat = 0 ↔ a = .noChange := by
  cases a <;> decide

/-- The first event of the list decides with its code, unless that is 0 (R272). -/
theorem pickAction_cons_bits (aq : BitVec 16) (pin : Pin) (e : Event) (b : Bool)
    (rest : List (Event × Bool)) :
    (pickAction aq pin ((e, b) :: rest)).bits.toNat =
      if heldCode aq pin e b ≠ 0 then heldCode aq pin e b
      else (pickAction aq pin rest).bits.toNat := by
  rw [pickAction_cons]
  cases b with
  | false => rfl
  | true =>
    by_cases hnone : aqField aq pin e = .noChange
    · rw [if_neg (by simp [hnone]), if_neg (by simp [heldCode, hnone, Action.bits])]
    · rw [if_pos ⟨rfl, hnone⟩, if_pos (by simpa [heldCode, Action.bits_toNat_eq_zero] using hnone)]
      rfl

/-- The last event decides with its code, whatever it is. -/
theorem pickAction_single_bits (aq : BitVec 16) (pin : Pin) (e : Event) (b : Bool) :
    (pickAction aq pin [(e, b)]).bits.toNat = heldCode aq pin e b := by
  rw [pickAction_cons_bits]
  split
  · rfl
  · rename_i hzero
    exact (not_not.mp hzero).symm

/-- Going up, the period comes before the compare value and zero (R272). -/
theorem Channel.events_order_up {c : Channel} (h : c.dir = .up) :
    c.events.order = [(.prd, decide (c.ctr = c.prd)), (.cau, decide (c.ctr = c.cmpa)),
      (.zro, decide (c.ctr = 0))] := by
  simp [Channel.events, Events.order, h, beq_eq_decide]

/-- Going down, zero comes before the compare value and the period (R272). -/
theorem Channel.events_order_down {c : Channel} (h : c.dir = .down) :
    c.events.order = [(.zro, decide (c.ctr = 0)), (.cad, decide (c.ctr = c.cmpa)),
      (.prd, decide (c.ctr = c.prd))] := by
  simp [Channel.events, Events.order, h, beq_eq_decide]

/-- The code of the action picked for a pin, by the direction (R271, R272). -/
theorem Channel.pickAction_bits (c : Channel) (aq : BitVec 16) (pin : Pin) :
    (pickAction aq pin c.events.order).bits.toNat =
      let zro := heldCode aq pin .zro (decide (c.ctr = 0))
      let prd := heldCode aq pin .prd (decide (c.ctr = c.prd))
      let cau := heldCode aq pin .cau (decide (c.ctr = c.cmpa))
      let cad := heldCode aq pin .cad (decide (c.ctr = c.cmpa))
      if c.dir = .up then if prd ≠ 0 then prd else if cau ≠ 0 then cau else zro
      else if zro ≠ 0 then zro else if cad ≠ 0 then cad else prd := by
  cases hd : c.dir with
  | up =>
    rw [Channel.events_order_up hd, pickAction_cons_bits, pickAction_cons_bits,
      pickAction_single_bits]
    rfl
  | down =>
    rw [Channel.events_order_down hd, pickAction_cons_bits, pickAction_cons_bits,
      pickAction_single_bits]
    rfl

/-- The events of a tick are those of the channel it leaves: the qualifier changes none of what they ask
for (R271, R273). -/
theorem Channel.tbTick_events (c : Channel) : c.count.loadOnZero.events = c.tbTick.events := rfl

end Sys2Proof.Machine
end

section
/-! SUPPORT. QA under the default profile of each mode (R278, R279), tick by tick. -/

namespace Sys2Proof.Machine

/-! ## What the profiles do at a tick -/

/-- Pin A's fields of the default profiles (R278): Up and UpDown begin the pulse at zero, Down ends it there;
the compare value ends it going up and begins it going down. -/
theorem aqField_defaultProfile (m : Mode) :
    aqField (defaultProfile m) .a .prd = .noChange ∧
      aqField (defaultProfile m) .a .zro = (if m = .down then .forceLow else .forceHigh) ∧
      (m ≠ .down → aqField (defaultProfile m) .a .cau = .forceLow) ∧
      (m ≠ .up → aqField (defaultProfile m) .a .cad = .forceHigh) := by
  cases m <;> decide

/-- An event without an action for the pin is passed over (R272). -/
theorem pickAction_cons_noChange {aq : BitVec 16} {pin : Pin} {e : Event}
    (he : aqField aq pin e = .noChange) (b : Bool) (rest : List (Event × Bool)) :
    pickAction aq pin ((e, b) :: rest) = pickAction aq pin rest := by
  rw [pickAction_cons, if_neg fun h => h.2 he]

/-- An event with an action sets the pin when it holds, and leaves it to the rest of the list when it does
not (R272, R274). -/
theorem pickAction_cons_apply {aq : BitVec 16} {pin : Pin} {e : Event} {a : Action}
    (he : aqField aq pin e = a) (ha : a ≠ .noChange) (p : Prop) [Decidable p]
    (rest : List (Event × Bool)) (q : Bool) :
    (pickAction aq pin ((e, decide p) :: rest)).apply q =
      if p then a.apply q else (pickAction aq pin rest).apply q := by
  rw [pickAction_cons, apply_ite (Action.apply · q), he]
  simp only [decide_eq_true_eq, ne_eq, ha, not_false_eq_true, and_true]

/-- Going up, the profiles of Up and UpDown end the pulse at the compare value, else begin it at zero. -/
theorem Channel.tbTick_qa_rising {c : Channel} (haq : c.aq = defaultProfile c.mode)
    (hm : c.mode ≠ .down) (hd : c.tbTick.dir = .up) :
    c.tbTick.qa = true ↔ c.tbTick.ctr ≠ c.tbTick.cmpa ∧ (c.tbTick.ctr = 0 ∨ c.qa = true) := by
  obtain ⟨hprd, hzro, hcau, -⟩ := aqField_defaultProfile c.mode
  rw [if_neg hm] at hzro
  rw [Channel.tbTick_qa, Channel.tbTick_events, Channel.events_order_up hd, haq,
    pickAction_cons_noChange hprd, pickAction_cons_apply (hcau hm) nofun,
    pickAction_cons_apply hzro nofun]
  simp [Action.apply, pickAction]

/-- Going down, the profile of Down ends the pulse at zero, else begins it at the compare value. -/
theorem Channel.tbTick_qa_down {c : Channel} (haq : c.aq = defaultProfile c.mode)
    (hm : c.mode = .down) (hd : c.tbTick.dir = .down) :
    c.tbTick.qa = true ↔ c.tbTick.ctr ≠ 0 ∧ (c.tbTick.ctr = c.tbTick.cmpa ∨ c.qa = true) := by
  obtain ⟨hprd, hzro, -, hcad⟩ := aqField_defaultProfile c.mode
  rw [if_pos hm] at hzro
  rw [Channel.tbTick_qa, Channel.tbTick_events, Channel.events_order_down hd, haq,
    pickAction_cons_apply hzro nofun, pickAction_cons_apply (hcad (by simp [hm])) nofun,
    pickAction_cons_noChange hprd]
  simp [Action.apply, pickAction]

/-- Going down, the profile of UpDown begins the pulse at the compare value, and at zero. -/
theorem Channel.tbTick_qa_upDown_falling {c : Channel} (haq : c.aq = defaultProfile c.mode)
    (hm : c.mode = .upDown) (hd : c.tbTick.dir = .down) :
    c.tbTick.qa = true ↔ c.tbTick.ctr = 0 ∨ c.tbTick.ctr = c.tbTick.cmpa ∨ c.qa = true := by
  obtain ⟨hprd, hzro, -, hcad⟩ := aqField_defaultProfile c.mode
  rw [if_neg (by simp [hm])] at hzro
  rw [Channel.tbTick_qa, Channel.tbTick_events, Channel.events_order_down hd, haq,
    pickAction_cons_apply hzro nofun, pickAction_cons_apply (hcad (by simp [hm])) nofun,
    pickAction_cons_noChange hprd]
  simp [Action.apply, pickAction]

/-! ## Where QA is high (R279) -/

/-- Where R279 has QA at 1 under the default profile: by the counter, its direction and the compare value. -/
def Channel.profileHigh (c : Channel) : Prop :=
  match c.mode with
  | .up => c.ctr.toNat < c.cmps.toNat
  | .down => 1 ≤ c.ctr.toNat ∧ c.ctr.toNat ≤ c.cmps.toNat
  | .upDown =>
    if c.dir = .up then c.ctr.toNat < c.cmps.toNat else c.ctr.toNat ≤ c.cmps.toNat

theorem Channel.profileHigh_up {c : Channel} (h : c.mode = .up) :
    c.profileHigh ↔ c.ctr.toNat < c.cmps.toNat := by
  rw [Channel.profileHigh, h]

theorem Channel.profileHigh_down {c : Channel} (h : c.mode = .down) :
    c.profileHigh ↔ 1 ≤ c.ctr.toNat ∧ c.ctr.toNat ≤ c.cmps.toNat := by
  rw [Channel.profileHigh, h]

theorem Channel.profileHigh_upDown {c : Channel} (h : c.mode = .upDown) :
    c.profileHigh ↔
      if c.dir = .up then c.ctr.toNat < c.cmps.toNat else c.ctr.toNat ≤ c.cmps.toNat := by
  rw [Channel.profileHigh, h]

/-- A channel under the default profile of its mode: a start is pending with QA low, or the counter is in
range, the compare value is loaded, and QA is where R279 has it. -/
structure Channel.OnProfile (c : Channel) : Prop where
  aq : c.aq = defaultProfile c.mode
  prd_ne : c.prd ≠ 0
  cmps_le : c.cmps.toNat ≤ c.prd.toNat
  low : c.fresh = true → c.qa = false
  counter : c.fresh = false → c.counterInRange
  loaded : c.fresh = false → c.cmpa = c.cmps
  level : c.fresh = false → (c.qa = true ↔ c.profileHigh)

/-- A tick leaves the compare value loaded (R232). -/
theorem Channel.OnProfile.tbTick_loaded {c : Channel} (h : c.OnProfile) : c.tbTick.cmpa = c.cmps := by
  rw [Channel.tbTick_cmpa]
  split
  · rfl
  · rename_i hkeep
    exact h.loaded (Bool.eq_false_iff.mpr fun hf => hkeep (.inl hf))

/-- Wherever the pulse begins at zero, QA is high there unless the compare value is 0. -/
theorem Channel.OnProfile.level_zero {c : Channel} (h : c.OnProfile) (hm : c.mode ≠ .down)
    (hdir : c.tbTick.dir = .up) (hctr : c.tbTick.ctr = 0) :
    c.tbTick.qa = true ↔ c.tbTick.ctr.toNat < c.cmps.toNat := by
  rw [Channel.tbTick_qa_rising h.aq hm hdir, h.tbTick_loaded, hctr]
  simp only [true_or, and_true]
  bv_omega

/-- One count up, QA stays as it was but for the end of the pulse at the compare value. -/
theorem Channel.OnProfile.level_rising {c : Channel} (h : c.OnProfile) (hm : c.mode ≠ .down)
    (hdir : c.tbTick.dir = .up) (hctr : c.tbTick.ctr.toNat = c.ctr.toNat + 1)
    (hq : c.qa = true ↔ c.ctr.toNat < c.cmps.toNat) :
    c.tbTick.qa = true ↔ c.tbTick.ctr.toNat < c.cmps.toNat := by
  rw [Channel.tbTick_qa_rising h.aq hm hdir, h.tbTick_loaded, hq]
  bv_omega

/-- Up: high from zero to the compare value. -/
theorem Channel.OnProfile.level_up {c : Channel} (h : c.OnProfile) (hm : c.mode = .up) :
    c.tbTick.qa = true ↔ c.tbTick.ctr.toNat < c.cmps.toNat := by
  have hnotDown : c.mode ≠ .down := by simp [hm]
  cases hf : c.fresh with
  | true =>
    obtain ⟨hctr, hdir⟩ := Channel.tbTick_start hf
    rw [hm] at hctr hdir
    exact h.level_zero hnotDown hdir hctr
  | false =>
    obtain ⟨hctr, hdir⟩ := Channel.tbTick_next hf
    obtain ⟨-, hnext⟩ := nextValue_up c.prd c.ctr c.dir
    rw [hm] at hctr hdir
    rw [← hctr] at hnext
    split at hnext
    · exact h.level_zero hnotDown hdir (BitVec.eq_of_toNat_eq hnext)
    · exact h.level_rising hnotDown hdir hnext
        ((h.level hf).trans (Channel.profileHigh_up hm))

/-- Down: high from the compare value to 1. -/
theorem Channel.OnProfile.level_down {c : Channel} (h : c.OnProfile) (hm : c.mode = .down) :
    c.tbTick.qa = true ↔ 1 ≤ c.tbTick.ctr.toNat ∧ c.tbTick.ctr.toNat ≤ c.cmps.toNat := by
  have hle := h.cmps_le
  have hpos := h.prd_ne
  cases hf : c.fresh with
  | true =>
    obtain ⟨hctr, hdir⟩ := Channel.tbTick_start hf
    rw [hm] at hctr hdir
    rw [Channel.tbTick_qa_down h.aq hm hdir, h.tbTick_loaded, h.low hf, hctr, startValue]
    simp only [Bool.false_eq_true, or_false]
    bv_omega
  | false =>
    obtain ⟨hctr, hdir⟩ := Channel.tbTick_next hf
    obtain ⟨-, hnext⟩ := nextValue_down c.prd c.ctr c.dir
    rw [hm] at hctr hdir
    rw [← hctr] at hnext
    rw [Channel.tbTick_qa_down h.aq hm hdir, h.tbTick_loaded, h.level hf,
      Channel.profileHigh_down hm]
    split at hnext <;> bv_omega

/-- UpDown: high from zero to the compare value going up, and from the compare value to zero going down. -/
theorem Channel.OnProfile.level_upDown {c : Channel} (h : c.OnProfile) (hm : c.mode = .upDown) :
    c.tbTick.qa = true ↔ if c.tbTick.dir = .up then c.tbTick.ctr.toNat < c.cmps.toNat
      else c.tbTick.ctr.toNat ≤ c.cmps.toNat := by
  have hnotDown : c.mode ≠ .down := by simp [hm]
  cases hf : c.fresh with
  | true =>
    obtain ⟨hctr, hdir⟩ := Channel.tbTick_start hf
    rw [hm, startValue] at hctr hdir
    rw [if_pos hdir]
    exact h.level_zero hnotDown hdir hctr
  | false =>
    obtain ⟨hctr, hdir⟩ := Channel.tbTick_next hf
    obtain ⟨-, -, -, hbelow, habove⟩ := h.counter hf
    have hle := h.cmps_le
    have hlevel := (h.level hf).trans (Channel.profileHigh_upDown hm)
    rw [hm] at hctr hdir
    cases hd : c.dir with
    | up =>
      obtain ⟨hnext, hturn⟩ := nextValue_upDown_rising (hbelow hm h.prd_ne hd)
      rw [hd] at hctr hdir
      rw [if_pos hd] at hlevel
      rw [← hctr] at hnext
      rw [← hdir] at hturn
      split at hturn
      · rw [hturn, if_neg nofun, Channel.tbTick_qa_upDown_falling h.aq hm hturn, h.tbTick_loaded,
          hlevel]
        bv_omega
      · rw [if_pos hturn]
        exact h.level_rising hnotDown hturn hnext hlevel
    | down =>
      obtain ⟨hnext, hturn⟩ := nextValue_upDown_falling h.prd_ne (habove hm h.prd_ne hd)
      rw [hd] at hctr hdir
      rw [if_neg (by simp [hd])] at hlevel
      rw [← hctr] at hnext
      rw [← hdir] at hturn
      split at hturn
      · rename_i hzero
        rw [if_pos hturn]
        exact h.level_zero hnotDown hturn (BitVec.eq_of_toNat_eq (hnext.trans hzero))
      · rw [hturn, if_neg nofun, Channel.tbTick_qa_upDown_falling h.aq hm hturn, h.tbTick_loaded,
          hlevel]
        bv_omega

/-- A tick keeps a channel on its profile. -/
theorem Channel.OnProfile.tbTick {c : Channel} (h : c.OnProfile) : c.tbTick.OnProfile where
  aq := by simpa using h.aq
  prd_ne := by simpa using h.prd_ne
  cmps_le := by simpa using h.cmps_le
  low hf := by simp at hf
  counter _ := Channel.counterInRange_congr c.tbTick_ctr c.tbTick_dir (by simp) (by simp)
    (Channel.count_inRange h.counter)
  loaded _ := h.tbTick_loaded.trans c.tbTick_cmps.symm
  level _ := by
    have hmode := c.tbTick_mode
    cases hm : c.mode with
    | up =>
      rw [Channel.profileHigh_up (hmode.trans hm), Channel.tbTick_cmps]
      exact h.level_up hm
    | down =>
      rw [Channel.profileHigh_down (hmode.trans hm), Channel.tbTick_cmps]
      exact h.level_down hm
    | upDown =>
      rw [Channel.profileHigh_upDown (hmode.trans hm), Channel.tbTick_cmps]
      exact h.level_upDown hm

/-- From a start on, every tick has QA where R279 has it. -/
theorem Channel.OnProfile.iterate {c : Channel} (h : c.OnProfile) (n : Nat) :
    (Channel.tbTick^[n + 1] c).qa = true ↔ (Channel.tbTick^[n + 1] c).profileHigh := by
  have hn : (Channel.tbTick^[n] c).OnProfile := by
    induction n with
    | zero => exact h
    | succ n ih =>
      rw [Function.iterate_succ_apply']
      exact ih.tbTick
  rw [Function.iterate_succ_apply']
  exact hn.tbTick.level (Channel.tbTick_fresh _)

theorem Channel.tbTick_iterate_cmps (c : Channel) (n : Nat) :
    (Channel.tbTick^[n] c).cmps = c.cmps := by
  induction n with
  | zero => rfl
  | succ n ih => rw [Function.iterate_succ_apply', Channel.tbTick_cmps, ih]

end Sys2Proof.Machine
end

section
/-! SUPPORT. The host's configureAction (R280) on the block, line by line: the read of the action table, the write
of the table with one field replaced, and the check of ERR. -/

namespace Sys2Proof.Machine

/-! ## The table with one field replaced -/

/-- The bits of the mask of one field. -/
theorem fieldMask_getLsbD (o : Nat) {j : Nat} (hj : j < 16) :
    (3#16 <<< o).getLsbD j = decide (o ≤ j ∧ j < o + 2) := by
  have hones (i : Nat) : Nat.testBit 3 i = decide (i < 2) := Nat.testBit_two_pow_sub_one 2 i
  rw [BitVec.getLsbD_shiftLeft, BitVec.getLsbD_ofNat, hones, Bool.eq_iff_iff]
  simp only [Bool.and_eq_true, Bool.not_eq_true', decide_eq_true_eq, decide_eq_false_iff_not]
  omega

/-- A bit of the field comes from the action's code, every other bit is as before (R280). -/
theorem withAction_getLsbD (aq : BitVec 16) (pin : Pin) (e : Event) (act : Action) {j : Nat}
    (hj : j < 16) :
    (withAction aq pin e act).getLsbD j =
      if pin.offset + e.offset ≤ j ∧ j < pin.offset + e.offset + 2
      then act.bits.getLsbD (j - (pin.offset + e.offset)) else aq.getLsbD j := by
  simp only [withAction, BitVec.getLsbD_or, BitVec.getLsbD_and, BitVec.getLsbD_not,
    fieldMask_getLsbD _ hj, BitVec.getLsbD_shiftLeft, BitVec.getLsbD_setWidth, hj]
  split
  · rename_i hin
    have hlow : ¬ j < pin.offset + e.offset := by omega
    have hwidth : j - (pin.offset + e.offset) < 16 := by omega
    simp [hin, hlow, hwidth]
  · rename_i hout
    have hzero (ho : ¬ j < pin.offset + e.offset) :
        act.bits.getLsbD (j - (pin.offset + e.offset)) = false :=
      BitVec.getLsbD_of_ge _ _ (by omega)
    by_cases ho : j < pin.offset + e.offset
    · simp [hout, ho]
    · simp [hout, hzero ho]

/-- Fields begin at even places and end within the register (R52). -/
theorem fieldOffset_bounds (pin : Pin) (e : Event) :
    (pin.offset + e.offset) % 2 = 0 ∧ pin.offset + e.offset + 2 ≤ 16 := by
  cases pin <;> cases e <;> decide

/-- The field has the action's code (R270, R276). -/
theorem withAction_field (aq : BitVec 16) (pin : Pin) (e : Event) (act : Action) :
    (withAction aq pin e act).toNat / 2 ^ (pin.offset + e.offset) % 4 = act.bits.toNat := by
  obtain ⟨-, hend⟩ := fieldOffset_bounds pin e
  refine (field_eq_iff (len := 2) _ _ _).mp (BitVec.eq_of_getLsbD_eq fun i hi => ?_)
  rw [BitVec.getLsbD_extractLsb', decide_eq_true hi, Bool.true_and,
    withAction_getLsbD aq pin e act (by omega), if_pos (by omega), Nat.add_sub_cancel_left]

/-- Every bit outside the field is as before (R280). -/
theorem withAction_getLsbD_outside (aq : BitVec 16) {pin : Pin} {e : Event} (act : Action) {j : Nat}
    (hj : j / 2 ≠ (pin.offset + e.offset) / 2) :
    (withAction aq pin e act).getLsbD j = aq.getLsbD j := by
  obtain ⟨heven, -⟩ := fieldOffset_bounds pin e
  by_cases hlt : j < 16
  · rw [withAction_getLsbD aq pin e act hlt, if_neg (by omega)]
  · rw [BitVec.getLsbD_of_ge _ _ (by omega), BitVec.getLsbD_of_ge _ _ (by omega)]

/-! ## The bits of ERR -/

theorem bitAt_getLsbD (b : Bool) (n i : Nat) :
    (bitAt b n).getLsbD i = (decide (i < 32) && decide (i = n) && b) := by
  have hone : Nat.testBit 1 (i - n) = decide (i - n < 1) := Nat.testBit_two_pow_sub_one 1 _
  cases b with
  | false => simp [bitAt]
  | true =>
    rw [bitAt, BitVec.getLsbD_shiftLeft, Bool.toNat_true, BitVec.getLsbD_ofNat, hone,
      Bool.eq_iff_iff]
    simp only [Bool.and_eq_true, Bool.not_eq_true', decide_eq_true_eq, decide_eq_false_iff_not,
      and_true]
    omega

/-- CFGERR[k] is bit k of ERR (R42). -/
theorem errValue_getLsbD_cfgerr (s : State) (k : Ch) :
    (errValue s).getLsbD k.toNat = s.cfgerr.get k := by
  cases k <;>
    simp [errValue, bitsAt, BitVec.getLsbD_or, bitAt_getLsbD, Ch.toNat,
      -BitVec.getLsbD_eq_getElem]

/-! ## The lines -/

theorem HostProc.run_read {r : RegName} {rest : Word → HostProc} {g : Word} {s t : State}
    (h : runLine (.rd r false) s = .next t) :
    (HostProc.read r rest).run g s = (rest t.readData).run g t := by
  rw [HostProc.run, h]

theorem HostProc.run_line {l : Line} {rest : HostProc} {g : Word} {s t : State}
    (h : runLine l s = .next t) :
    (HostProc.lines [.line l] rest).run g s = rest.run (l.trackGctl g) t := by
  have hlines : assembleFrom g [.line l] = [l] := rfl
  rw [HostProc.run, hlines, runLines, h]
  rfl

/-- What decides a write of a channel's action table, and what it can change (R276). -/
structure ActionView where
  run : Bool
  aq : BitVec 16
  cfgerr : Bool

/-- The view of channel `k`: its RUN, its AQ and its CFGERR. -/
def State.actionView (s : State) (k : Ch) : ActionView :=
  { run := (s.chan k).run, aq := (s.chan k).aq, cfgerr := s.cfgerr.get k }

/-- The view after a write of the table: made while the channel is stopped, else flagged (R276). -/
def ActionView.write (x : ActionView) (v : BitVec 16) : ActionView :=
  if x.run then { x with cfgerr := true } else { x with aq := v }

theorem ActionView.write_running {x : ActionView} (h : x.run = true) (v : BitVec 16) :
    x.write v = { x with cfgerr := true } := if_pos h

theorem ActionView.write_stopped {x : ActionView} (h : x.run = false) (v : BitVec 16) :
    x.write v = { x with aq := v } := if_neg (Bool.eq_false_iff.mp h)

theorem State.setCfgerr_actionView (s : State) (k : Ch) :
    (s.setCfgerr k).actionView k = { s.actionView k with cfgerr := true } := by
  simp [State.actionView]

theorem State.setAq_actionView (s : State) (k : Ch) (v : BitVec 16) :
    (State.setAq k v s).actionView k = { s.actionView k with aq := v } := by
  simp [State.actionView, State.setAq, State.modChan]

/-- The rest of a cycle after its bus transaction keeps the view. -/
theorem State.afterBus_actionView (s : State) (tick : Bool) (k : Ch) :
    (s.afterBus tick).actionView k = s.actionView k := by
  obtain ⟨hrun, -, -, -, -, -, haq, -⟩ := s.afterBus_channel_frame tick k
  obtain ⟨-, -, -, -, hcfgerr, -⟩ := s.afterBus_frame tick
  rw [State.actionView, State.actionView, hrun, haq, hcfgerr]

/-- A line that reads a register answers its value and keeps the view. -/
theorem runLine_read_actionView {r : RegName} {f : State → Word} (s : State) (k : Ch)
    (hread : ∀ u, exec (r.access none) u = readReg f u) :
    ∃ t, runLine (.rd r false) s = .next t ∧ t.readData = f s.forLine ∧
      t.actionView k = s.actionView k := by
  obtain ⟨t, hrun, hdata, ht⟩ := runLine_read s (Line.transaction_rd r false) hread
  refine ⟨t, hrun, hdata, ?_⟩
  rw [ht, State.afterBus_actionView]
  rfl

/-- A line that writes the action table. -/
theorem runLine_write_aqctl (k : Ch) (v : BitVec 16) (s : State) :
    ∃ t, runLine (.write (.ch k .aqctl) (v.setWidth 32)) s = .next t ∧
      t.actionView k = (s.actionView k).write v := by
  have htrans := Line.transaction_wr (.ch k .aqctl) (v.setWidth 32) false
  have hword : (v.setWidth 32).toNat = v.toNat := BitVec.toNat_setWidth_of_le (by decide)
  have hexec := exec_chWrite_aqctl k (v.setWidth 32) s.forLine
  rw [halfOperand_legal hword] at hexec
  cases hr : (s.actionView k).run with
  | true =>
    rw [acceptChannel_running (s := s.forLine) hr] at hexec
    refine ⟨_, runLine_eq rfl htrans hexec, ?_⟩
    rw [State.afterBus_actionView, ActionView.write_running hr]
    exact s.forLine.setCfgerr_actionView k
  | false =>
    rw [acceptChannel_stopped (s := s.forLine) hr] at hexec
    refine ⟨_, runLine_eq rfl htrans hexec, ?_⟩
    rw [State.afterBus_actionView, ActionView.write_stopped hr]
    exact s.forLine.setAq_actionView k v

/-! ## The procedure -/

/-- The check of ERR fails the procedure exactly when CFGERR[k] is set (R280). -/
theorem HostProc.run_checkErr (k : Ch) (rest : HostProc) (g : Word) (s : State) :
    ∃ t, t.actionView k = s.actionView k ∧ (HostProc.checkErr k rest).run g s =
      if (s.actionView k).cfgerr then .failed .rejectedWrite g t else rest.run g t := by
  obtain ⟨t, hrun, hdata, hview⟩ := runLine_read_actionView (r := .err) s k fun _ => rfl
  have hbit : (errValue s.forLine).getLsbD k.toNat = (s.actionView k).cfgerr :=
    errValue_getLsbD_cfgerr _ k
  refine ⟨t, hview, ?_⟩
  rw [HostProc.checkErr, HostProc.run_read hrun, hdata, hbit, apply_ite (HostProc.run · g t)]
  rfl

/-- The procedure writes the table with the action in its field, and ends as the check of ERR says (R280). -/
theorem configureAction_run (k : Ch) (pin : Pin) (e : Event) (act : Action) (g : Word) (s : State) :
    ∃ t, t.actionView k = (s.actionView k).write (withAction (s.chan k).aq pin e act) ∧
      (configureAction k pin e act).run g s =
        if (t.actionView k).cfgerr then .failed .rejectedWrite g t else .done g t := by
  obtain ⟨u, hread, hdata, hu⟩ := runLine_read_actionView (r := .ch k .aqctl) s k
    fun _ => exec_chRead rfl
  have haq : u.readData.extractLsb' 0 16 = (s.chan k).aq := by
    rw [hdata, field_eq_iff]
    change (zext (s.chan k).aq).toNat / 2 ^ 0 % 2 ^ 16 = (s.chan k).aq.toNat
    rw [zext, BitVec.toNat_setWidth_of_le (by decide), pow_zero, Nat.div_one,
      Nat.mod_eq_of_lt (s.chan k).aq.isLt]
  obtain ⟨v, hwrite, hv⟩ := runLine_write_aqctl k (withAction (s.chan k).aq pin e act) u
  obtain ⟨t, ht, hcheck⟩ := HostProc.run_checkErr k .done g v
  refine ⟨t, by rw [ht, hv, hu], ?_⟩
  rw [configureAction, HostProc.run_read hread, haq, HostProc.run_line hwrite, ht]
  exact hcheck

end Sys2Proof.Machine
end

section

open Sys2Proof Sys2Proof.Machine

/-- Settles O53: a start under a default profile is on the profile, and so is every tick after it. -/
theorem defaultProfileWaveforms : Obligations.DefaultProfileWaveforms := by
  intro k s n hfresh hprd hqa hle
  refine ⟨_, execTimes_tbTick k (n + 1) s, ?_⟩
  rw [State.modChan_chan_same]
  obtain ⟨hmode, -⟩ := (s.chan k).tbTick_iterate_frame (n + 1)
  have hcmps := (s.chan k).tbTick_iterate_cmps (n + 1)
  have hwave (haq : (s.chan k).aq = defaultProfile (s.chan k).mode) :=
    Channel.OnProfile.iterate ⟨haq, hprd, hle, fun _ => hqa, by simp [hfresh], by simp [hfresh],
      by simp [hfresh]⟩ n
  rw [← hcmps]
  refine ⟨fun hm haq => ?_, fun hm haq => ?_, fun hm haq => ?_⟩ <;> rw [hm] at hmode hwave
  · exact (hwave haq).trans (Channel.profileHigh_up hmode)
  · exact (hwave haq).trans (Channel.profileHigh_down hmode)
  · exact (hwave haq).trans (Channel.profileHigh_upDown hmode)

/-- Settles O59: the read gives the table, the write replaces the field or sets CFGERR[k], and the check of ERR
sees which. -/
theorem configureActionSetsOneField : Obligations.ConfigureActionSetsOneField := by
  intro k pin e act p off c g s hpin hevent hact
  have hp : pin.offset = p := by fin_cases hpin <;> rfl
  have hoff : e.offset = off := by fin_cases hevent <;> rfl
  have hc : act.bits.toNat = c := by fin_cases hact <;> rfl
  subst hp hoff hc
  obtain ⟨t, hview, hend⟩ := configureAction_run k pin e act g s
  refine ⟨fun hstop hclear => ⟨t, ?_⟩, fun hrej => ⟨t, ?_⟩⟩
  · rw [ActionView.write_stopped hstop] at hview
    have haq : (t.chan k).aq = withAction (s.chan k).aq pin e act :=
      congrArg ActionView.aq hview
    have hok : (t.actionView k).cfgerr = false := (congrArg ActionView.cfgerr hview).trans hclear
    rw [hend, haq]
    exact ⟨if_neg (Bool.eq_false_iff.mp hok), withAction_field _ pin e act,
      fun j => withAction_getLsbD_outside _ act⟩
  · have hflag : (t.actionView k).cfgerr = true := by
      rw [hview, ActionView.write]
      split
      · rfl
      · rename_i hstop
        exact hrej.resolve_left hstop
    exact hend.trans (if_pos hflag)

/-- Settles O26: the write is accepted when the channel is stopped and the word is legal, else rejected. -/
theorem wrAqctlSetsActionTable : Obligations.WrAqctlSetsActionTable := by
  refine ⟨fun k w => decode_chWrite (r := .aqctl) rfl k w, fun k s => ⟨fun v hstop => ?_,
    fun w hrej => ?_⟩⟩
  · have hword : (BitVec.ofNat 32 v.toNat).toNat = v.toNat := by
      rw [BitVec.toNat_ofNat]
      omega
    rw [exec_chWrite_aqctl, halfOperand_legal hword, acceptChannel_stopped hstop]
    rfl
  · rw [exec_chWrite_aqctl, acceptChannel_rejected (hrej.imp_right halfOperand_illegal)]
    rfl

/-- Settles O38: `act` is the code of the action picked for each pin. -/
theorem tbTickQualifiesByPriority : Obligations.TbTickQualifiesByPriority := by
  refine fun k s => ⟨_, exec_tbTick k s, ?_⟩
  rw [State.modChan_chan_same]
  intro zro prd cau cad act q hzro hprd hcau hcad hact hqa hqb
  have hpick (pin : Pin) (n : Nat) (hn : pin.offset = 8 * n) :
      (pickAction (s.chan k).aq pin (s.chan k).tbTick.events.order).bits.toNat = act n := by
    rw [Channel.pickAction_bits, hact, hzro, hprd, hcau, hcad]
    simp only [heldCode_decide, hn, Event.offset, Nat.add_zero]
  rw [Channel.tbTick_qa, Channel.tbTick_qb, Channel.tbTick_events, Action.apply_toNat,
    Action.apply_toNat, hpick .a 0 rfl, hpick .b 1 rfl, hqa, hqb]
  exact ⟨rfl, rfl⟩

end

section
/-! SUPPORT. The dead-time engine (R310 to R319): the pins of a channel, what the two pin samples of a step are, the
writes of DBCTL, DBRED and DBFED, and OUTST as a number. -/

namespace Sys2Proof.Machine

/-! ## The pins of a channel (R314, R317, R318) -/

/-- With the engine enabled OUT_A needs QA and OUT_B needs the inverse of QA (R317 item 1). -/
theorem Channel.pins_not_both_high {c : Channel} (h : c.dben = true) : (c.pins.a && c.pins.b) = false := by
  cases hqa : c.qa with
  | false =>
    have houtA : c.outA = false := by simp [Channel.outA, h, hqa]
    simp [Channel.pins, houtA]
  | true =>
    have houtB : c.outB = false := by simp [Channel.outB, h, hqa]
    simp [Channel.pins, houtB]

theorem Channel.pins_low {c : Channel} (h : c.outen = false) : c.pins = { a := false, b := false } := by
  simp [Channel.pins, h]

/-! ## The pin samples of a step (R152) -/

/-- The rising sample is the pins of the channel between the two sub-steps, which has the enables it has as
the step ends, and the falling sample is the pins of the channel as the step ends. A reset shows the pins of
the reset channel in both. -/
theorem step_pin_samples {s t : State} (h : step s = .next t) (k : Ch) :
    ∃ c : Channel, c.dben = (t.chan k).dben ∧ c.outen = (t.chan k).outen ∧
      t.pinsRise.get k = c.pins ∧ t.pinsFall.get k = (t.chan k).pins := by
  obtain ⟨-, rfl⟩ | ⟨-, u, -, rfl⟩ := step_cases h
  · refine ⟨Channel.reset, ?_⟩
    cases k <;> exact ⟨rfl, rfl, rfl, rfl⟩
  · obtain ⟨hrise, hfall⟩ := u.afterBus_pins s.input.sampleTick k
    obtain ⟨-, houten, -, -, -, -, -, -, -, hdben, -⟩ :=
      ((u.sampled s.input.sampleTick).chan k).substep.substep_frame
    rw [← State.afterBus_chan] at houten hdben
    exact ⟨_, hdben.symm, houten.symm, hrise, hfall⟩

/-! ## Writes (R310, R311) -/

theorem exec_chWrite_dbctl (k : Ch) (w : Word) (s : State) :
    exec (.chWrite k .dbctl w) s = acceptChannel k (dbctlOperand w) (State.setDbctl k) s := by
  cases k <;> rfl

theorem exec_chWrite_dbred (k : Ch) (w : Word) (s : State) :
    exec (.chWrite k .dbred w) s = acceptChannel k (halfOperand w) (State.setRed k) s := by
  cases k <;> rfl

theorem exec_chWrite_dbfed (k : Ch) (w : Word) (s : State) :
    exec (.chWrite k .dbfed w) s = acceptChannel k (halfOperand w) (State.setFed k) s := by
  cases k <;> rfl

/-- The operands of a legal DBCTL word: EN and HALF in their places, no other bit (R114). -/
theorem dbctlOperand_legal (en half : Bool) :
    dbctlOperand (BitVec.ofNat 32 (en.toNat + 8 * half.toNat)) =
      some { en := en, pol := .activeHighComplementary, half := half } := by
  cases en <;> cases half <;> rfl

/-- A DBCTL word with a reserved polarity or a "must be 0" bit set is illegal (R115). -/
theorem dbctlOperand_illegal {w : Word} (h : ChReg.dbctl.illegal w.toNat) : dbctlOperand w = none := by
  have hw := w.isLt
  obtain hpol | hreserved := h
  · have hbits : ¬ w.extractLsb' 1 2 = 0 := by
      rw [field_eq_iff]
      simpa using hpol
    rw [dbctlOperand, Polarity.ofBits, if_neg hbits]
  · rw [dbctlOperand]
    split
    · rfl
    · refine legalIf_false ?_ _
      rw [beq_iff_eq, field_eq_iff, BitVec.toNat_zero]
      omega

/-- A 16-bit value as a data word is its own operand (R114). -/
theorem halfOperand_ofNat (v : BitVec 16) : halfOperand (BitVec.ofNat 32 v.toNat) = some v := by
  apply halfOperand_legal
  rw [BitVec.toNat_ofNat]
  omega

/-! ## The output status (R55, R319) -/

/-- A bit put above a value that ends below it counts with the weight of its place. -/
theorem bitAt_or_ofNat (b : Bool) {y n : Nat} (h : y < 2 ^ n) :
    bitAt b n ||| BitVec.ofNat 32 y = BitVec.ofNat 32 (2 ^ n * b.toNat + y) :=
  shiftLeft_or_ofNat _ h

theorem outstValue_eq (k : Ch) (s : State) :
    outstValue k s = BitVec.ofNat 32
      (2 ^ 5 * (s.chan k).pins.b.toNat + (2 ^ 4 * (s.chan k).pins.a.toNat +
        (2 ^ 3 * (s.chan k).outB.toNat + (2 ^ 2 * (s.chan k).outA.toNat +
          (2 ^ 1 * (s.chan k).qb.toNat + (s.chan k).qa.toNat))))) := by
  have hqa := (s.chan k).qa.toNat_lt
  have hqb := (s.chan k).qb.toNat_lt
  have houtA := (s.chan k).outA.toNat_lt
  have houtB := (s.chan k).outB.toNat_lt
  have hpinA := (s.chan k).pins.a.toNat_lt
  simp only [outstValue, BitVec.or_assoc, bitAt_zero]
  rw [bitAt_or_ofNat _ (by omega), bitAt_or_ofNat _ (by omega), bitAt_or_ofNat _ (by omega),
    bitAt_or_ofNat _ (by omega), bitAt_or_ofNat _ (by omega)]

end Sys2Proof.Machine
end

section

open Sys2Proof Sys2Proof.Machine

/-- Settles O41: both samples are the pins of a channel with its engine enabled. -/
theorem noShootThrough : Obligations.NoShootThrough := by
  intro s t k hstep hdben
  obtain ⟨c, hdbenRise, -, hrise, hfall⟩ := step_pin_samples hstep k
  rw [State.noShootThrough, hrise, hfall]
  exact ⟨Channel.pins_not_both_high (hdbenRise.trans hdben), Channel.pins_not_both_high hdben⟩

/-- Settles O42: both samples are the pins of a channel with OUTEN = 0. -/
theorem disabledOutputsAreLow : Obligations.DisabledOutputsAreLow := by
  intro s t k hstep houten
  obtain ⟨c, -, houtenRise, hrise, hfall⟩ := step_pin_samples hstep k
  rw [hrise, hfall]
  exact ⟨Channel.pins_low (houtenRise.trans houten), Channel.pins_low houten⟩

/-- Settles O18: the outputs that the statement writes out are those of the engine, and the sum is OUTST with its
terms in the other order. -/
theorem rdOutstFields : Obligations.RdOutstFields := by
  intro k s w outA outB houtA houtB
  have hA : (s.chan k).outA = outA := houtA.symm
  have hB : (s.chan k).outB = outB := houtB.symm
  refine ⟨exec_chRead ?_, exec_chWrite_readOnly (by simp) k w s⟩
  rw [chValue, outstValue_eq, Channel.pins, hA, hB]
  dsimp only
  congr 1
  omega

/-- Settles O27: the write is accepted when the channel is stopped and the word is legal, else rejected. -/
theorem wrDbctlSetsDeadTimeControl : Obligations.WrDbctlSetsDeadTimeControl := by
  refine fun k s => ⟨fun en half hstop => ?_, fun w hrej => ?_⟩
  · rw [exec_chWrite_dbctl, dbctlOperand_legal, acceptChannel_stopped hstop]
    rfl
  · rw [exec_chWrite_dbctl, acceptChannel_rejected (hrej.imp_right dbctlOperand_illegal)]
    rfl

/-- Settles O28: both registers take a 16-bit operand on a stopped channel, and reject what else is written. -/
theorem wrDelaysSetDeadTime : Obligations.WrDelaysSetDeadTime := by
  refine fun k s => ⟨fun v hstop => ⟨?_, ?_⟩, fun w hrej => ?_, fun w hrej => ?_⟩
  · rw [exec_chWrite_dbred, halfOperand_ofNat, acceptChannel_stopped hstop]
    rfl
  · rw [exec_chWrite_dbfed, halfOperand_ofNat, acceptChannel_stopped hstop]
    rfl
  · rw [exec_chWrite_dbred, acceptChannel_rejected (hrej.imp_right halfOperand_illegal)]
    rfl
  · rw [exec_chWrite_dbfed, acceptChannel_rejected (hrej.imp_right halfOperand_illegal)]
    rfl

end

section
/-! SUPPORT. The sample step (R352 to R362): the step as one update of the state, the index after a row of
sample steps, what the rest of a cycle leaves of it, and the table-size and index registers. -/

namespace Sys2Proof.Machine

/-! ## One phase (R358) -/

/-- `w` is what a read of entry `i` gives (R89): the entry if it is written, else one of the free draws that
are counted from `lo` up to `hi`. -/
structure Memory.Reads (m : Memory) (i : LutIndex) (lo hi : Nat) (w : Word) : Prop where
  draws_le : lo ≤ hi
  written : ∀ v, m.readEntry i = some v → w = v
  unwritten : m.readEntry i = none → ∃ d, lo ≤ d ∧ d < hi ∧ w = Config.lutDraw d

/-- Among more draws the read is still one. -/
theorem Memory.Reads.widen {m : Memory} {i : LutIndex} {lo hi lo' hi' : Nat} {w : Word}
    (h : m.Reads i lo hi w) (hlo : lo' ≤ lo) (hhi : hi ≤ hi') : m.Reads i lo' hi' w where
  draws_le := by
    have hle := h.draws_le
    omega
  written := h.written
  unwritten hnone := by
    obtain ⟨d, hd, hd', hw⟩ := h.unwritten hnone
    exact ⟨d, by omega, by omega, hw⟩

/-- A table read gives such a word and changes nothing but the count of draws (R89). -/
theorem lutRead_reads (i : LutIndex) (s : State) :
    ∃ w n, lutRead i s = (w, { s with draws := n }) ∧ s.lut.Reads i s.draws n w := by
  obtain ⟨v, hentry, hread⟩ | ⟨hentry, hread⟩ := lutRead_cases i s
  · refine ⟨v, s.draws, hread, le_rfl, fun w hw => ?_, fun hnone => ?_⟩
    · exact Option.some.inj (hentry.symm.trans hw)
    · cases hentry.symm.trans hnone
  · refine ⟨_, s.draws + 1, hread, Nat.le_succ _, fun w hw => ?_, fun _ => ?_⟩
    · cases hentry.symm.trans hw
    · exact ⟨s.draws, le_rfl, Nat.lt_succ_self _, rfl⟩

/-- COLL[p] takes the mark of a bus write beside what it held (R361). -/
theorem State.collide_eq (s : State) (p : Ch) :
    s.collide p =
      { s with coll := s.coll.set p (s.coll.get p || decide (s.wrote = some p)) } := by
  by_cases h : s.wrote = some p <;> simp [State.collide, State.setColl, h]

/-- The state after phase `p` has read the code `w` and `n` draws have been made (R358). -/
def State.feedPhase (s : State) (p : Ch) (w : Word) (n : Nat) : State :=
  { s with
    ch := s.ch.set p ((s.chan p).dutyWrite w)
    idx := s.idx.set p (nextIdx (s.idx.get p) s.lutn)
    clamp := s.clamp.set p (s.clamp.get p || outOfRange w)
    coll := s.coll.set p (s.coll.get p || decide (s.wrote = some p))
    draws := n }

/-- One phase of the sample step feeds its channel the word read at its advanced index (R358). -/
theorem State.samplePhase_feeds (s : State) (p : Ch) :
    ∃ w n, s.samplePhase p = s.feedPhase p w n ∧
      s.lut.Reads (nextIdx (s.idx.get p) s.lutn) s.draws n w := by
  have hidx : (s.advance p).idx.get p = nextIdx (s.idx.get p) s.lutn := PerCh.get_set_same _ _ _
  obtain ⟨w, n, hread, hreads⟩ := lutRead_reads (nextIdx (s.idx.get p) s.lutn) (s.advance p)
  refine ⟨w, n, ?_, hreads⟩
  simp only [State.samplePhase, hidx, hread, State.collide_eq, State.dutyWrite_eq]
  rfl

/-! ## The sample step -/

/-- The state after every phase has read its code and `n` draws have been made (R358). -/
def State.feed (s : State) (code : Ch → Word) (n : Nat) : State :=
  { s with
    ch := PerCh.ofFn fun p => (s.chan p).dutyWrite (code p)
    idx := PerCh.ofFn fun p => nextIdx (s.idx.get p) s.lutn
    clamp := PerCh.ofFn fun p => s.clamp.get p || outOfRange (code p)
    coll := PerCh.ofFn fun p => s.coll.get p || decide (s.wrote = some p)
    draws := n }

theorem State.feed_chan (s : State) (code : Ch → Word) (n : Nat) (p : Ch) :
    (s.feed code n).chan p = (s.chan p).dutyWrite (code p) := PerCh.get_ofFn _ p

theorem State.feed_idx (s : State) (code : Ch → Word) (n : Nat) (p : Ch) :
    (s.feed code n).idx.get p = nextIdx (s.idx.get p) s.lutn := PerCh.get_ofFn _ p

theorem State.feed_clamp (s : State) (code : Ch → Word) (n : Nat) (p : Ch) :
    (s.feed code n).clamp.get p = (s.clamp.get p || outOfRange (code p)) := PerCh.get_ofFn _ p

theorem State.feed_coll (s : State) (code : Ch → Word) (n : Nat) (p : Ch) :
    (s.feed code n).coll.get p = (s.coll.get p || decide (s.wrote = some p)) := PerCh.get_ofFn _ p

/-- The sample step feeds every channel the word read at its phase's advanced index: a phase reads the same
table as the phases before it leave, and no index but its own (R358). -/
theorem State.sampleStep_feeds (s : State) :
    ∃ code n, s.sampleStep = s.feed code n ∧
      ∀ p, s.lut.Reads (nextIdx (s.idx.get p) s.lutn) s.draws n (code p) := by
  obtain ⟨w0, n0, hphase0, hreads0⟩ := s.samplePhase_feeds .c0
  obtain ⟨w1, n1, hphase1, hreads1⟩ := (s.feedPhase .c0 w0 n0).samplePhase_feeds .c1
  obtain ⟨w2, n2, hphase2, hreads2⟩ :=
    ((s.feedPhase .c0 w0 n0).feedPhase .c1 w1 n1).samplePhase_feeds .c2
  have h0 : s.draws ≤ n0 := hreads0.draws_le
  have h1 : n0 ≤ n1 := hreads1.draws_le
  have h2 : n1 ≤ n2 := hreads2.draws_le
  refine ⟨({ c0 := w0, c1 := w1, c2 := w2 } : PerCh Word).get, n2, ?_, fun p => ?_⟩
  · rw [State.sampleStep, hphase0, hphase1, hphase2]
    rfl
  · cases p with
    | c0 => exact hreads0.widen le_rfl (h1.trans h2)
    | c1 => exact hreads1.widen h0 h2
    | c2 => exact hreads2.widen (h0.trans h1) le_rfl

theorem exec_sample (s : State) : exec .sample s = .next s.sampleStep := rfl

/-- A table size that fits the table advances an index modulo the size (R358). -/
theorem nextIdx_toNat (i : LutIndex) {n : BitVec 11} (h0 : 0 < n.toNat) (h : n.toNat ≤ 1024) :
    (nextIdx i n).toNat = (i.toNat + 1) % n.toNat := by
  have hlt := Nat.mod_lt (i.toNat + 1) h0
  rw [nextIdx, BitVec.toNat_ofNat, Nat.mod_eq_of_lt (by omega)]

theorem State.sampleStep_idx (s : State) (p : Ch) :
    s.sampleStep.idx.get p = nextIdx (s.idx.get p) s.lutn := by
  obtain ⟨code, n, hfeed, -⟩ := s.sampleStep_feeds
  rw [hfeed, State.feed_idx]

theorem State.sampleStep_coll (s : State) (p : Ch) :
    s.sampleStep.coll.get p = (s.coll.get p || decide (s.wrote = some p)) := by
  obtain ⟨code, n, hfeed, -⟩ := s.sampleStep_feeds
  rw [hfeed, State.feed_coll]

/-- A written entry at the advanced index of a phase goes to its channel through the duty path (R358). -/
theorem State.sampleStep_written {s : State} {p : Ch} {v : Word}
    (h : s.lut.readEntry (nextIdx (s.idx.get p) s.lutn) = some v) :
    s.sampleStep.chan p = (s.chan p).dutyWrite v := by
  obtain ⟨code, n, hfeed, hreads⟩ := s.sampleStep_feeds
  rw [hfeed, State.feed_chan, (hreads p).written v h]

/-! ## Sample steps in a row (R359, R362) -/

/-- After `n` sample steps every index is `n` further modulo the table size (R359). -/
theorem execTimes_sample {s : State} (hlutn : s.lutn.toNat ≤ 1024)
    (hidx : ∀ p, (s.idx.get p).toNat < s.lutn.toNat) (n : Nat) :
    ∃ t, execTimes .sample n s = .next t ∧ t.lutn = s.lutn ∧
      ∀ p, (t.idx.get p).toNat = ((s.idx.get p).toNat + n) % s.lutn.toNat := by
  induction n generalizing s with
  | zero => exact ⟨s, rfl, rfl, fun p => (Nat.mod_eq_of_lt (hidx p)).symm⟩
  | succ n ih =>
    have hpos : 0 < s.lutn.toNat := Nat.zero_lt_of_lt (hidx .c0)
    obtain ⟨-, hkeep, -⟩ := s.sampleStep_frame
    have hnext (p : Ch) :
        (s.sampleStep.idx.get p).toNat = ((s.idx.get p).toNat + 1) % s.lutn.toNat := by
      rw [State.sampleStep_idx, nextIdx_toNat _ hpos hlutn]
    obtain ⟨t, ht, htlutn, htidx⟩ := ih (s := s.sampleStep) (by rwa [hkeep]) fun p => by
      rw [hnext, hkeep]
      exact Nat.mod_lt _ hpos
    refine ⟨t, ht, htlutn.trans hkeep, fun p => ?_⟩
    rw [htidx, hkeep, hnext, Nat.mod_add_mod, Nat.add_assoc, Nat.add_comm 1 n]

/-- The difference of two indices modulo the table size stays when both go `n` further (R362). -/
theorem index_difference_kept {N x y : Nat} (hx : x < N) (n : Nat) :
    ((y + n) % N + N - (x + n) % N) % N = (y + N - x) % N := by
  have hpos : 0 < N := Nat.zero_lt_of_lt hx
  have hlt := Nat.mod_lt (x + n) hpos
  have hsum : (y + n) % N + N - (x + n) % N + (x + n) % N ≡ y + N - x + (x + n) % N [MOD N] := calc
    (y + n) % N + N - (x + n) % N + (x + n) % N = (y + n) % N + N := by omega
    _ ≡ y + n + N [MOD N] := (Nat.mod_modEq _ _).add_right _
    _ = y + N - x + (x + n) := by omega
    _ ≡ y + N - x + (x + n) % N [MOD N] := ((Nat.mod_modEq _ _).symm).add_left _
  exact hsum.add_right_cancel'

/-! ## The sample step in its cycle (R361) -/

/-- A write of CMP or DUTY marks its channel and leaves the sequencer and the configuration of the channels
alone (R157, R238, R242). -/
theorem exec_compareWrite {i : Instr} {p : Ch} {w : Word}
    (hi : i = .chWrite p .cmp w ∨ i = .chWrite p .duty w) (s : State) :
    ∃ u, exec i s = .next u ∧ u.wrote = some p ∧ u.pgen = s.pgen ∧ u.lutn = s.lutn ∧
      u.idx = s.idx ∧ u.lut = s.lut ∧ (u.chan p).mode = (s.chan p).mode ∧
      (u.chan p).prd = (s.chan p).prd := by
  obtain rfl | rfl := hi
  · refine ⟨_, exec_chWrite_cmp p w s, ?_⟩
    simp [State.cmpBusWrite]
  · refine ⟨_, exec_chWrite_duty p w s, ?_⟩
    simp [State.dutyWrite]

/-- The sub-steps leave COLL, DUTY and CMPS as the sample step left them (R150). -/
theorem State.afterBus_keepsSample (s : State) (tick : Bool) (p : Ch) :
    (s.afterBus tick).coll = (s.sampled tick).coll ∧
      ((s.afterBus tick).chan p).duty = ((s.sampled tick).chan p).duty ∧
      ((s.afterBus tick).chan p).cmps = ((s.sampled tick).chan p).cmps := by
  refine ⟨by unfold State.afterBus State.sampled; rfl, ?_⟩
  rw [State.afterBus_chan]
  simp [Channel.substep_frame]

/-- With PGEN = 1 a sample tick runs the sample step (R150). -/
theorem State.sampled_of_pgen {s : State} (h : s.pgen = true) : s.sampled true = s.sampleStep := by
  rw [State.sampled, h]
  rfl

/-! ## The registers (R353 to R357) -/

theorem exec_phidxRead (p : Ch) (s : State) : exec (.phidxRead p) s = readReg (phidxValue p) s := by
  cases p <;> rfl

theorem exec_phidxWrite (p : Ch) (w : Word) (s : State) :
    exec (.phidxWrite p w) s = acceptTable (phidxOperand s.lutn w) (State.setIdx p) s := by
  cases p <;> rfl

theorem exec_wrLutn (w : Word) (s : State) :
    exec (.wrLutn w) s = acceptTable (lutnOperand w) State.setLutn s := rfl

/-- A write of the table registers that is illegal in value, or finds PGEN = 1, only sets LUTERR (R156). -/
theorem acceptTable_rejected {α : Type} {o : Option α} {upd : α → State → State} {s : State}
    (h : s.pgen = true ∨ o = none) :
    acceptTable o upd s = .next (s.setLuterr.respond (.okay 0)) := by
  obtain hpgen | rfl := h
  · exact acceptTable_enabled hpgen
  · exact acceptTable_illegal

/-- A table size from 2 to 1024 as a data word is its own operand (R114, R353). -/
theorem lutnOperand_legal {n : Nat} (hl : 2 ≤ n) (hu : n ≤ 1024) :
    lutnOperand (BitVec.ofNat 32 n) = some (BitVec.ofNat 11 n) := by
  refine legalIf_eq_some.mpr ⟨?_, ?_⟩
  · simp only [Bool.and_eq_true, beq_iff_eq, decide_eq_true_eq, field_eq_iff, toNat_field,
      BitVec.toNat_ofNat]
    omega
  · simp only [field_eq_iff, BitVec.toNat_ofNat]
    omega

/-- Any other word is no table size (R115, R353). -/
theorem lutnOperand_illegal {w : Word} (h : w.toNat < 2 ∨ 1024 < w.toNat) : lutnOperand w = none := by
  have hw := w.isLt
  refine legalIf_false ?_ _
  simp only [Bool.and_eq_true, beq_iff_eq, decide_eq_true_eq, field_eq_iff, toNat_field,
    BitVec.toNat_zero]
  omega

/-- An index below the table size as a data word is its own operand (R114, R356). -/
theorem phidxOperand_legal {n : BitVec 11} {i : LutIndex} (h : i.toNat < n.toNat) :
    phidxOperand n (BitVec.ofNat 32 i.toNat) = some i := by
  have hi := i.isLt
  refine legalIf_eq_some.mpr ⟨?_, ?_⟩
  · simp only [Bool.and_eq_true, beq_iff_eq, decide_eq_true_eq, field_eq_iff, toNat_field,
      BitVec.toNat_ofNat]
    omega
  · simp only [field_eq_iff, BitVec.toNat_ofNat]
    omega

/-- A word at or above the table size, or beyond the ten bits of an index, is no index (R115, R356). -/
theorem phidxOperand_illegal {n : BitVec 11} {w : Word} (h : n.toNat ≤ w.toNat ∨ 1024 ≤ w.toNat) :
    phidxOperand n w = none := by
  have hw := w.isLt
  refine legalIf_false ?_ _
  simp only [Bool.and_eq_true, beq_iff_eq, decide_eq_true_eq, field_eq_iff, toNat_field,
    BitVec.toNat_zero]
  omega

end Sys2Proof.Machine
end

section

open Sys2Proof Sys2Proof.Machine

/-- Settles O45: `n` steps add `n` modulo the table size, which is nothing for `n` = N. -/
theorem sampleStepsAreCyclic : Obligations.SampleStepsAreCyclic := by
  refine fun s hl hu hidx => ⟨?_, fun n => ?_⟩
  · obtain ⟨t, ht, hlutn, htidx⟩ := execTimes_sample hu hidx s.lutn.toNat
    refine ⟨t, ht, hlutn, PerCh.ext_get fun p => BitVec.eq_of_toNat_eq ?_⟩
    rw [htidx, Nat.add_mod_right, Nat.mod_eq_of_lt (hidx p)]
  · obtain ⟨t, ht, hlutn, htidx⟩ := execTimes_sample hu hidx n
    refine ⟨t, ht, fun p => ?_⟩
    rw [htidx, hlutn]
    exact Nat.mod_lt _ (by omega)

/-- Settles O46: both indices of a difference go the same way further. -/
theorem phaseSeparationIsKept : Obligations.PhaseSeparationIsKept := by
  intro s n hl hu hidx
  obtain ⟨t, ht, -, htidx⟩ := execTimes_sample hu hidx n
  refine ⟨t, ht, ?_, ?_⟩ <;> rw [htidx, htidx] <;> exact index_difference_kept (hidx .c0) n

/-- Settles O55: the bus write leaves its mark and a sequencer as before; the sample step then sees the mark
and writes DUTY and CMPS over it, and the sub-steps keep both. -/
theorem collisionGoesToSequencer : Obligations.CollisionGoesToSequencer := by
  intro s t x rest w v p hinputs hrst htick hpgen htrans hstep
  have hx := State.input_of_cons hinputs
  obtain ⟨i, htrans, hi⟩ : ∃ i, x.transaction = some i ∧
      (i = .chWrite p .cmp w ∨ i = .chWrite p .duty w) := by
    obtain h | h := htrans
    · exact ⟨_, h, .inl rfl⟩
    · exact ⟨_, h, .inr rfl⟩
  obtain ⟨u, hu, hwrote, hupgen, hlutn, hidx, hlut, hmode, hprd⟩ :=
    exec_compareWrite hi s.beginCycle
  rw [step_without_reset (hx ▸ hrst), hx, htrans, runOp_some, hu, andThen_next, htick, afterBus_eq,
    next_inj] at hstep
  subst hstep
  obtain ⟨hcoll, hduty, hcmps⟩ := u.afterBus_keepsSample true p
  rw [hcoll, hduty, hcmps, State.sampled_of_pgen (hupgen.trans hpgen)]
  refine ⟨?_, fun hentry => ?_⟩
  · simp [State.sampleStep_coll, hwrote]
  · have hread : u.lut.readEntry (nextIdx (u.idx.get p) u.lutn) = some v := by
      rw [hlut, hidx, hlutn]
      exact hentry
    rw [State.sampleStep_written hread]
    refine ⟨rfl, ?_⟩
    rw [Channel.dutyWrite_cmps, hmode, hprd]
    rfl

/-- Settles O40: the sample step as one update of the state, with the conditions of the statement. -/
theorem sampleFeedsEveryPhase : Obligations.SampleFeedsEveryPhase := by
  intro s hpos hle
  obtain ⟨code, n, hfeed, hreads⟩ := s.sampleStep_feeds
  refine ⟨code, n, (s.feed code n).ch, (s.feed code n).idx, (s.feed code n).clamp,
    (s.feed code n).coll, (exec_sample s).trans (congrArg _ hfeed), (hreads .c0).draws_le, fun p => ?_⟩
  rw [s.feed_idx, s.feed_clamp, s.feed_coll, outOfRange_eq_decide]
  exact ⟨nextIdx_toNat _ hpos hle, (hreads p).written, (hreads p).unwritten,
    s.feed_chan code n p, rfl, rfl⟩

/-- Settles O57: the rounding is that of two quotients by 3. -/
theorem startIndicesAreNearest : Obligations.StartIndicesAreNearest := by
  intro p n hl _
  refine ⟨startIdx_lt p hl, ?_⟩
  cases p <;> simp only [startIdx, Ch.toNat] <;> omega

/-- Settles O19: both registers are fields extended with zeros. -/
theorem rdTableRegisters : Obligations.RdTableRegisters := by
  refine fun s p => ⟨readReg_next.mpr ?_, ?_⟩
  · rw [lutnValue, zext_eq]
    rfl
  · rw [exec_phidxRead, readReg_next, phidxValue, zext_eq]
    rfl

/-- Settles O29: the write is accepted with PGEN = 0 and a legal size, else rejected. -/
theorem wrLutnSetsSizeAndIndices : Obligations.WrLutnSetsSizeAndIndices := by
  refine ⟨fun _ => rfl, fun s => ⟨fun n hl hu hidle => ?_, fun w hrej => ?_⟩⟩
  · have hsize : (BitVec.ofNat 11 n).toNat = n := by
      rw [BitVec.toNat_ofNat]
      omega
    rw [exec_wrLutn, lutnOperand_legal hl hu, acceptTable_idle hidle, State.setLutn, hsize]
    rfl
  · rw [exec_wrLutn, acceptTable_rejected (hrej.imp_right lutnOperand_illegal)]
    rfl

/-- Settles O30: the write is accepted with PGEN = 0 and an index below the size, else rejected. -/
theorem wrPhidxSetsIndex : Obligations.WrPhidxSetsIndex := by
  refine fun p s => ⟨fun i hi hidle => ?_, fun w hrej => ?_⟩
  · rw [exec_phidxWrite, phidxOperand_legal hi, acceptTable_idle hidle]
    rfl
  · rw [exec_phidxWrite, acceptTable_rejected (hrej.imp_right phidxOperand_illegal)]
    rfl

end

section
/-! SUPPORT. The responses of a transaction (R390, R391): which operations answer OKAY, what a SLVERR answer says
of the state, and that nothing in the cycle after the bus depends on the response. -/

namespace Sys2Proof.Machine

/-! ## Operations that answer OKAY -/

/-- The operation completes with an OKAY response. -/
def AnswersOkay (r : Result) : Prop := ∃ d t, r = .next t ∧ t.bus = .okay d

theorem okay_answersOkay (d : Word) (s : State) : AnswersOkay (okay d s) := ⟨d, _, rfl, rfl⟩

/-- Accepted or rejected, a channel's configuration write answers OKAY (R156, R392). -/
theorem acceptChannel_answersOkay {α : Type} (k : Ch) (o : Option α) (upd : α → State → State)
    (s : State) : AnswersOkay (acceptChannel k o upd s) := by
  obtain ⟨t, ht⟩ := acceptChannel_completes k o upd s
  obtain ⟨-, rfl⟩ | ⟨x, -, -, rfl⟩ := acceptChannel_next ht
  · exact ⟨0, _, ht, rfl⟩
  · exact ⟨0, _, ht, rfl⟩

/-- Accepted or rejected, a table configuration write answers OKAY (R156, R392). -/
theorem acceptTable_answersOkay {α : Type} (o : Option α) (upd : α → State → State) (s : State) :
    AnswersOkay (acceptTable o upd s) := by
  obtain ⟨t, ht⟩ := acceptTable_completes o upd s
  obtain ⟨-, rfl⟩ | ⟨x, -, -, rfl⟩ := acceptTable_next ht
  · exact ⟨0, _, ht, rfl⟩
  · exact ⟨0, _, ht, rfl⟩

/-- A write of a channel's register that is not read-only answers OKAY (R156, R157). -/
theorem exec_chWrite_answersOkay {r : ChReg} (hr : r ∉ [ChReg.tbctr, .cmpshd, .outst]) (k : Ch)
    (w : Word) (s : State) : AnswersOkay (exec (.chWrite k r w) s) := by
  cases r with
  | tbctr | cmpshd | outst => simp at hr
  | tbctl => cases k <;> exact acceptChannel_answersOkay _ _ (State.setTbctl _) s
  | tbprd => cases k <;> exact acceptChannel_answersOkay _ _ (State.setTbprd _) s
  | cmpctl => cases k <;> exact acceptChannel_answersOkay _ _ (State.setImmed _) s
  | aqctl => cases k <;> exact acceptChannel_answersOkay _ _ (State.setAq _) s
  | dbctl => cases k <;> exact acceptChannel_answersOkay _ _ (State.setDbctl _) s
  | dbred => cases k <;> exact acceptChannel_answersOkay _ _ (State.setRed _) s
  | dbfed => cases k <;> exact acceptChannel_answersOkay _ _ (State.setFed _) s
  | cmp | duty => cases k <;> exact okay_answersOkay _ _

/-! ## The registers by their addresses (R81, R391) -/

/-- The registers whose write is answered SLVERR: ID, CHk.TBCTR, CHk.CMPSHD and CHk.OUTST. -/
def RegName.IsReadOnly : RegName → Prop
  | .id => True
  | .ch _ r => r ∈ [ChReg.tbctr, .cmpshd, .outst]
  | _ => False

theorem RegName.readOnly_addr_iff (r : RegName) : readOnly r.addr.toNat ↔ r.IsReadOnly := by
  cases r with
  | id => exact iff_of_true (by decide) trivial
  | gctl | err | lutn => exact iff_of_false (by decide) not_false
  | phidx p => cases p <;> exact iff_of_false (by decide) not_false
  | ch k r =>
    rw [IsReadOnly]
    cases k <;> cases r <;> decide
  | lut i =>
    refine iff_of_false ?_ not_false
    rw [RegName.addr, lutAddr_toNat]
    omega

theorem RegName.mapped_addr (r : RegName) : mapped r.addr.toNat := by
  cases r with
  | id | gctl | err | lutn => decide
  | phidx p => cases p <;> decide
  | ch k r =>
    have hk := k.toNat_lt
    have hr := r.offset_le
    rw [RegName.addr, chAddr_toNat]
    omega
  | lut i =>
    have hi := i.isLt
    rw [RegName.addr, lutAddr_toNat]
    omega

/-- A mapped aligned address is a register's. -/
theorem exists_addr_of_mapped {a : Addr} (hal : a.aligned = true) (h : mapped a.toNat) :
    ∃ r : RegName, r.addr = a := by
  refine (addr_cases hal).resolve_right fun hclass => ?_
  rw [Addr.isUnmappedGlobalPage_iff, Addr.isUnmappedChannelOffset_iff, Addr.isUnmappedChannel3_iff,
    Addr.isUnmappedPages2to15_iff] at hclass
  omega

/-! ## The response of each class (R391) -/

theorem exec_decode_size {h : Header} (hsize : headerSize h ≠ 2#2) (w : Word) (s : State) :
    exec (decode h w) s = .next (s.respond (.slverr .size)) := by
  obtain hs | hs | hs | hs := headerSize_cases h
  · rw [decode_size0 hs]
    rfl
  · rw [decode_size1 hs]
    rfl
  · exact absurd hs hsize
  · rw [decode_size3 hs]
    rfl

theorem exec_decode_misaligned {h : Header} (hsize : headerSize h = 2#2)
    (hmisaligned : ¬ (headerAddr h).aligned = true) (w : Word) (s : State) :
    exec (decode h w) s = .next (s.respond (.slverr .align)) := by
  obtain ha | ha | ha := (headerAddr h).alignment_cases
  · rw [decode_align0 hsize ha]
    rfl
  · rw [decode_align1 hsize ha]
    rfl
  · exact absurd ha hmisaligned

/-- A mapped aligned word decodes to the row of the register at its address. -/
theorem decode_mapped {h : Header} (hsize : headerSize h = 2#2)
    (hal : (headerAddr h).aligned = true) (hmapped : mapped (headerAddr h).toNat) (w : Word) :
    ∃ r : RegName, (readOnly (headerAddr h).toNat ↔ r.IsReadOnly) ∧
      decode h w = r.access (headerData h w) := by
  obtain ⟨r, hr⟩ := exists_addr_of_mapped hal hmapped
  rw [decode_aligned hsize hal, ← hr]
  exact ⟨r, r.readOnly_addr_iff, decodeWord_addr _ r⟩

/-- An aligned word where no register stands is answered SLVERR with the cause UNMAPPED. -/
theorem exec_decodeWord_unmapped {a : Addr} (hal : a.aligned = true) (h : ¬ mapped a.toNat)
    (d : Option Word) (s : State) :
    exec (decodeWord d a) s = .next (s.respond (.slverr .unmapped)) := by
  obtain ⟨r, rfl⟩ | hc | hc | hc | hc := addr_cases hal
  · exact absurd r.mapped_addr h
  · rw [decodeWord_unmappedGlobalPage d hc]
    rfl
  · rw [decodeWord_unmappedChannelOffset d hc]
    rfl
  · rw [decodeWord_unmappedChannel3 d hc]
    rfl
  · rw [decodeWord_unmappedPages2to15 d hc]
    rfl

/-- A write of a read-only register is answered SLVERR with the cause RO. -/
theorem exec_access_readOnly {r : RegName} (h : r.IsReadOnly) (w : Word) (s : State) :
    exec (r.access (some w)) s = .next (s.respond (.slverr .ro)) := by
  cases r with
  | id => rfl
  | ch k r => exact exec_chWrite_readOnly h k w s
  | gctl | err | lutn | phidx | lut => exact absurd h not_false

/-- A read of any register answers OKAY. -/
theorem exec_access_read_answersOkay (r : RegName) (s : State) :
    AnswersOkay (exec (r.access none) s) := by
  cases r with
  | id | gctl | err | lutn | lut => exact okay_answersOkay _ _
  | phidx p => exact exec_phidxRead p s ▸ okay_answersOkay _ _
  | ch k r => exact ⟨_, _, exec_chRead rfl, rfl⟩

/-- A write of a register that is not read-only answers OKAY. -/
theorem exec_access_write_answersOkay {r : RegName} (h : ¬ r.IsReadOnly) (w : Word) (s : State) :
    AnswersOkay (exec (r.access (some w)) s) := by
  cases r with
  | id => exact absurd trivial h
  | gctl | err => exact okay_answersOkay _ _
  | lutn => exact acceptTable_answersOkay (lutnOperand w) State.setLutn s
  | phidx p => exact exec_phidxWrite p w s ▸ acceptTable_answersOkay _ _ _
  | ch k r => exact exec_chWrite_answersOkay h k w s
  | lut i => exact acceptTable_answersOkay (some w) (fun v t => t.lutWrite i v) s

/-! ## A transaction answered SLVERR (R390) -/

/-- Every effect of a transaction but a bare response is an OKAY answer, so SLVERR is a bare response. -/
theorem BusEffect.eq_of_slverr {i : Instr} {s u : State} {c : Cause} (h : BusEffect s i u)
    (hc : u.bus = .slverr c) : u = s.respond (.slverr c) := by
  cases h with
  | respond r =>
    obtain rfl : r = .slverr c := hc
    rfl
  | _ => cases hc

/-- A transaction answered SLVERR changes only the response. -/
theorem exec_decode_slverr {h : Header} {w : Word} {s u : State} {c : Cause}
    (hu : exec (decode h w) s = .next u) (hc : u.bus = .slverr c) : u = s.respond (.slverr c) :=
  (exec_effect (decode_isBus h w) hu).eq_of_slverr hc

/-! ## The rest of a cycle takes no notice of the response -/

theorem lutRead_respond (i : LutIndex) (s : State) (r : BusResult) :
    lutRead i (s.respond r) = ((lutRead i s).1, (lutRead i s).2.respond r) := by
  unfold lutRead
  rw [State.respond_lut]
  split <;> rfl

theorem State.samplePhase_respond (s : State) (p : Ch) (r : BusResult) :
    (s.respond r).samplePhase p = (s.samplePhase p).respond r := by
  have hadvance : (s.respond r).advance p = (s.advance p).respond r := rfl
  simp only [State.samplePhase, hadvance, State.respond_idx, lutRead_respond, State.collide_eq,
    State.dutyWrite_eq]
  rfl

theorem State.sampled_respond (s : State) (tick : Bool) (r : BusResult) :
    (s.respond r).sampled tick = (s.sampled tick).respond r := by
  unfold State.sampled
  rw [State.respond_pgen]
  split
  · simp only [State.sampleStep, State.samplePhase_respond]
  · rfl

/-- The sub-steps of a cycle with their pin samples: what follows the sample step (R150, R152). -/
def State.ticked (s : State) : State :=
  let s1 := { s.substeps with pinsRise := s.substeps.pins }
  { s1.substeps with pinsFall := s1.substeps.pins }

theorem State.afterBus_eq_ticked (s : State) (tick : Bool) :
    s.afterBus tick = (s.sampled tick).ticked := rfl

theorem State.ticked_respond (s : State) (r : BusResult) :
    (s.respond r).ticked = s.ticked.respond r := rfl

/-- With another response the rest of the cycle ends in the same state but for that response. -/
theorem State.afterBus_respond (s : State) (tick : Bool) (r : BusResult) :
    (s.respond r).afterBus tick = (s.afterBus tick).respond r := by
  rw [State.afterBus_eq_ticked, State.afterBus_eq_ticked, State.sampled_respond,
    State.ticked_respond]

end Sys2Proof.Machine
end

section

open Sys2Proof Sys2Proof.Machine

/-- Settles O35: the transaction only responded, and the rest of the cycle carries the response along unread. -/
theorem slverrIsPrecise : Obligations.SlverrIsPrecise := by
  intro s t x rest c hinputs hrst hreq hstep hslverr
  have hx := State.input_of_cons hinputs
  rw [step_without_reset (hx ▸ hrst), hx, CycleInput.transaction_of_req hreq, runOp_some] at hstep
  obtain ⟨u, hu, hrest⟩ := andThen_eq_next.mp hstep
  rw [afterBus_eq, next_inj] at hrest
  subst hrest
  have hbus : u.bus = .slverr c := (u.afterBus_frame x.sampleTick).1.symm.trans hslverr
  have huq := exec_decode_slverr hu hbus
  have hbegin : State.beginCycle { s with inputs := { x with busReq := false } :: rest } =
      s.beginCycle := by
    rw [State.beginCycle, State.beginCycle, hinputs]
    rfl
  calc step { s with inputs := { x with busReq := false } :: rest }
      = afterBus x.sampleTick s.beginCycle := by
        rw [← hbegin]
        exact step_without_transaction hrst rfl
    _ = .next (s.beginCycle.afterBus x.sampleTick) := afterBus_eq _ _
    _ = .next ((u.afterBus x.sampleTick).respond .noTransaction) := by
        rw [← State.afterBus_respond, huq]
        rfl

/-- Settles O4: the decoder's rule for each size and alignment, and for an aligned word the register at its
address, if there is one. -/
theorem slverrCauseOrder : Obligations.SlverrCauseOrder := by
  refine ⟨⟨rfl, rfl, rfl, rfl⟩, fun h w s => ?_⟩
  simp only [← Addr.aligned_iff, ne_eq]
  refine ⟨fun hsize => exec_decode_size hsize w s,
    fun hsize hmisaligned => exec_decode_misaligned hsize hmisaligned w s,
    fun hsize hal hunmapped => ?_, fun hsize hal hmapped hwrite hro => ?_,
    fun hsize hal hmapped hallowed => ?_⟩
  · rw [decode_aligned hsize hal]
    exact exec_decodeWord_unmapped hal hunmapped _ s
  · obtain ⟨r, hiff, hdecode⟩ := decode_mapped hsize hal hmapped w
    rw [hdecode, headerData, if_pos hwrite]
    exact exec_access_readOnly (hiff.mp hro) w s
  · obtain ⟨r, hiff, hdecode⟩ := decode_mapped hsize hal hmapped w
    rw [hdecode, headerData]
    cases hw : headerW h with
    | true => exact exec_access_write_answersOkay (fun hro => hallowed ⟨hw, hiff.mpr hro⟩) w s
    | false => exact exec_access_read_answersOkay r s

/-- Settles O34: the rows that carry an address and WR ID are `slverr` of their cause, and the RO rows of a
channel are the writes of its read-only registers. -/
theorem slverrChangesNothing : Obligations.SlverrChangesNothing := by
  refine ⟨fun c => ⟨rfl, rfl⟩, fun s d a w k => ⟨rfl, rfl, rfl, rfl, rfl, rfl, rfl, rfl, rfl, rfl,
    ?tbctr, ?cmpshd, ?outst⟩⟩
  case tbctr => exact exec_chWrite_readOnly (r := .tbctr) (by decide) k w s
  case cmpshd => exact exec_chWrite_readOnly (r := .cmpshd) (by decide) k w s
  case outst => exact exec_chWrite_readOnly (r := .outst) (by decide) k w s

end

section
/-! SUPPORT. A reset (R430): what the RESET operation gives, and the cycle that runs it. -/

namespace Sys2Proof.Machine

/-- RESET leaves the state after a reset (R430). -/
theorem exec_reset (s : State) : exec .reset s = .next s.doReset := rfl

/-- With RST = 1 a step is RESET on the state as the cycle begins, whatever else the cycle presents
(R150, R430). -/
theorem step_with_reset {s : State} (hrst : s.input.rst = true) :
    step s = .next s.beginCycle.doReset := by
  unfold step cycle
  rw [hrst, if_pos rfl, exec_reset]

/-- The beginning of a cycle takes its input from the list; a reset drops the rest of what it does. -/
theorem State.beginCycle_doReset_of_cons {s : State} {x : CycleInput} {rest : List CycleInput}
    (h : s.inputs = x :: rest) :
    s.beginCycle.doReset = { State.reset with inputs := rest, draws := s.draws } := by
  rw [State.doReset, State.beginCycle_inputs, State.beginCycle_draws, h, List.tail_cons]

/-- After a reset no flag of a channel is set (R430). -/
theorem State.reset_flags (k : Ch) :
    State.reset.cfgerr.get k = false ∧ State.reset.clamp.get k = false ∧
      State.reset.coll.get k = false :=
  ⟨PerCh.get_all _ k, PerCh.get_all _ k, PerCh.get_all _ k⟩

/-- After a reset both samples of the pins are low (R430). -/
theorem State.reset_pins (k : Ch) :
    State.reset.pinsRise.get k = { a := false, b := false } ∧
      State.reset.pinsFall.get k = { a := false, b := false } :=
  ⟨PerCh.get_all _ k, PerCh.get_all _ k⟩

end Sys2Proof.Machine
end

section

open Sys2Proof Sys2Proof.Machine

/-- Settles O8: a cycle with RST = 1 is the RESET operation alone, and the table of R430 is read off the state it
leaves. -/
theorem resetCycle : Obligations.ResetCycle := by
  refine ⟨exec_reset, fun s x rest hinputs hrst => ?step, State.reset_chan, rfl, rfl, rfl, rfl, rfl,
    State.reset_flags, rfl, Memory.readByte_nil, rfl, rfl, State.reset_pins⟩
  case step =>
    have hx := State.input_of_cons hinputs
    rw [step_with_reset (hx ▸ hrst), State.beginCycle_doReset_of_cons hinputs]

end
